-- ==== Sys2Proof/Word.lean ====
section
/-! DEFINITION. The word types of the DShot protocol decoder: the field widths the spec names. -/

namespace Sys2Proof

/-- A 4-bit checksum or decoded nibble (R105, R210). -/
abbrev Nibble := BitVec 4

/-- A 5-bit GCR group (R108). -/
abbrev GcrCode := BitVec 5

/-- The 12-bit span a checksum covers (R100, R105). -/
abbrev Data12 := BitVec 12

/-- A 16-bit command frame word (R100) or decoded telemetry word (R105). -/
abbrev Word16 := BitVec 16

/-- The 20 data bits of a telemetry frame, before or after the differential decode (R103, R104). -/
abbrev Data20 := BitVec 20

/-- A 21-bit raw telemetry frame (R103). -/
abbrev Raw21 := BitVec 21

/-- The step-select word (R90). -/
abbrev SelectWord := BitVec 8

end Sys2Proof
end

