-- ==== Sys2Proof/Config.lean ====
section
/-! DEFINITION. The design-time parameters of R5 (00_scope.md), each at the value the spec gives it, and the configuration
that State.reset latches (log 3). The tables GCR_TABLE and the baud table stand in Machine/Flags.lean and Machine/Timing.lean. -/

namespace Sys2Proof.Config

/-- `CMD_FRAME_BITS` (R5). -/
def cmdFrameBits : Nat := 16

/-- `TLM_FRAME_BITS` (R5, R183): one start-framing bit and 20 GCR data bits. -/
def tlmFrameBits : Nat := 21

/-- The value at which `cmd_cnt` saturates (R32, R170): "more than 16". -/
def cmdCntMax : Nat := 17

/-- `TIMEOUT_MULT` (R5, R132). -/
def timeoutMult : Nat := 3

/-- `TLM_RATE_NUM` (R5, R133); other values are OPEN in the spec (log 13). -/
def tlmRateNum : Nat := 5

/-- `TLM_RATE_DEN` (R5, R133); other values are OPEN in the spec (log 13). -/
def tlmRateDen : Nat := 4

/-- The first sample index whose behaviour the spec leaves out (R21, R309): a sample there is refused (log 5). -/
def sampleLimit : Nat := 2 ^ 64 - 2 ^ 17

/-- DESIGN CHOICE (log 3), unsafe: `cfg_sample_rate` of the reset that State.reset stands for, 3 MHz (95_test_vectors.md, C3M). -/
def resetSampleRate : BitVec 32 := 3000000#32

/-- DESIGN CHOICE (log 3), unsafe: `cfg_baud_sel` of that reset, 300000 bit/s. -/
def resetBaudSel : BitVec 2 := 1#2

/-- DESIGN CHOICE (log 3), unsafe: `cfg_bidir` of that reset. -/
def resetBidir : Bool := false

/-- DESIGN CHOICE (log 3), unsafe: `cfg_edt_forced` of that reset. -/
def resetEdtForced : Bool := false

/-- DESIGN CHOICE (log 3), unsafe: `cfg_max_telem_wait` of that reset, in samples. -/
def resetMaxTelemWait : BitVec 64 := 200#64

end Sys2Proof.Config
end

