-- ==== Sys2Proof/Machine/Fields.lean ====
section
/-! DEFINITION. The bit fields of the formats of 30_encoding.md: splitting and assembling words, MSB first (R72 to R74). -/

namespace Sys2Proof.Machine

/-- R100: `value = w[15:5]`. -/
def cmdValue (w : Word16) : BitVec 11 := w.extractLsb' 5 11

/-- R100: `treq = w[4]`. -/
def cmdTreq (w : Word16) : BitVec 1 := w.extractLsb' 4 1

/-- R100: `crc_rx = w[3:0]`. -/
def cmdCrc (w : Word16) : Nibble := w.extractLsb' 0 4

/-- R100: `data12 = w[15:4]`. -/
def cmdData12 (w : Word16) : Data12 := w.extractLsb' 4 12

/-- R100: `data12 = (value << 1) | treq`. -/
def data12Of (value : BitVec 11) (treq : BitVec 1) : Data12 := value ++ treq

/-- R100: the frame word `[value][treq][crc]`. -/
def cmdWordOf (value : BitVec 11) (treq : BitVec 1) (crc : Nibble) : Word16 := value ++ treq ++ crc

/-- R103: the start-framing bit `tlm_raw[20]`. -/
def rawStart (raw : Raw21) : BitVec 1 := raw.extractLsb' 20 1

/-- R103, R215: the data bits `x = raw & 0xFFFFF`. -/
def rawData (raw : Raw21) : Data20 := raw.extractLsb' 0 20

/-- R103: the raw frame `[start][x]`. -/
def rawOf (start : BitVec 1) (x : Data20) : Raw21 := start ++ x

/-- R104, R214: group 0 is `d[19:15]`. -/
def group0 (d : Data20) : GcrCode := d.extractLsb' 15 5

/-- R104, R214: group 1 is `d[14:10]`. -/
def group1 (d : Data20) : GcrCode := d.extractLsb' 10 5

/-- R104, R214: group 2 is `d[9:5]`. -/
def group2 (d : Data20) : GcrCode := d.extractLsb' 5 5

/-- R104, R214: group 3 is `d[4:0]`. -/
def group3 (d : Data20) : GcrCode := d.extractLsb' 0 5

/-- R104: the 20-bit value the four groups spell, group 0 most significant. -/
def groupsOf (g0 g1 g2 g3 : GcrCode) : Data20 := g0 ++ g1 ++ g2 ++ g3

/-- R105: `payload = decoded[15:4]`. -/
def decodedPayload (w : Word16) : Data12 := w.extractLsb' 4 12

/-- R105: `crc_rx = decoded[3:0]`. -/
def decodedCrc (w : Word16) : Nibble := w.extractLsb' 0 4

/-- R105: the decoded word `[payload][crc]`. -/
def decodedOf (payload : Data12) (crc : Nibble) : Word16 := payload ++ crc

/-- R106: `e = payload[11:9]`. -/
def erpmExp (payload : Data12) : BitVec 3 := payload.extractLsb' 9 3

/-- R106: `m = payload[8:0]`. -/
def erpmMant (payload : Data12) : BitVec 9 := payload.extractLsb' 0 9

/-- R106: the ERPM payload `[e][m]`. -/
def erpmOf (e : BitVec 3) (m : BitVec 9) : Data12 := e ++ m

/-- R90: the step-select word from its fields, `h` in bit 7 down to `full` in bit 0. -/
def packSelect (h : Bool) (ph : BitVec 2) (se ee f t full : Bool) : SelectWord :=
  BitVec.ofBool h ++ ph ++ BitVec.ofBool se ++ BitVec.ofBool ee ++ BitVec.ofBool f ++ BitVec.ofBool t ++ BitVec.ofBool full

/-- `(r << 1) | b` in the register's own width: the shift of R170 and R181, its mask being the width. -/
def shiftIn {n : Nat} (r : BitVec n) (b : Bool) : BitVec n := (r <<< 1) ||| (BitVec.ofBool b).setWidth n

end Sys2Proof.Machine
end

