-- ==== Sys2Proof/Machine/Flags.lean ====
section
/-! DEFINITION. The pure functions that compute a bit, a check or a flag: the two bit classifiers (41_bit_classifier.md), the
checksum engine (43_checksum.md), the differential decode, the GCR lookup and the ERPM period (44_gcr_telemetry.md). -/

namespace Sys2Proof.Machine

/-- R154: the value of a command bit; strict, with no tolerance band (R162). `start < mid` and `start < stop` wherever the block
calls it, so the subtractions of naturals are exact (log 6). -/
def classifyCommandBit (start mid stop : Nat) : Bool :=
  let duty := mid - start
  let period := stop - start
  decide (2 * duty > period)

/-- R160: the value and the timing-error flag of a telemetry bit; the best-effort value of a malformed bit is 0 (log 18). -/
def classifyTelemetryBit (lowMatched highMatched : Bool) : Bool × Bool :=
  match lowMatched, highMatched with
  | true, false => (false, false)
  | false, true => (true, false)
  | false, false => (false, true)
  | true, true => (false, true)

/-- R200, R201: the 4-bit checksum, complemented before the mask in bidirectional mode. -/
def computeChecksum (data : Data12) (bidir : Bool) : Nibble :=
  let folded := data ^^^ (data >>> 4) ^^^ (data >>> 8)
  (if bidir then ~~~folded else folded).setWidth 4

/-- R202: whether the received checksum is the computed one. -/
def validateChecksum (data : Data12) (received : Nibble) (bidir : Bool) : Bool :=
  decide (received = computeChecksum data bidir)

/-- R215: the differential decode `d = x ^ (x >> 1)`. -/
def diffDecode (x : Data20) : Data20 := x ^^^ (x >>> 1)

/-- R215: its inverse, `x[19] = d[19]` and `x[j] = d[j] ^ x[j+1]`, as a XOR of every bit with all the bits above it. -/
def diffEncode (d : Data20) : Data20 :=
  let a := d ^^^ (d >>> 1)
  let b := a ^^^ (a >>> 2)
  let c := b ^^^ (b >>> 4)
  let e := c ^^^ (c >>> 8)
  e ^^^ (e >>> 16)

/-- R210: `GCR_TABLE`, the sixteen valid patterns and their nibbles. Only `11001` is the source's; the other fifteen are the
spec's default, from general knowledge (log 12). -/
def gcrTable : List (GcrCode × Nibble) :=
  [(0b11001, 0x0), (0b11011, 0x1), (0b10010, 0x2), (0b10011, 0x3),
   (0b11101, 0x4), (0b10101, 0x5), (0b10110, 0x6), (0b10111, 0x7),
   (0b11010, 0x8), (0b01001, 0x9), (0b01010, 0xA), (0b01011, 0xB),
   (0b11110, 0xC), (0b01101, 0xD), (0b01110, 0xE), (0b01111, 0xF)]

/-- The nibble of a pattern in a list of table entries. -/
def lookupIn (p : GcrCode) : List (GcrCode × Nibble) → Option Nibble
  | [] => none
  | (q, n) :: rest => if p = q then some n else lookupIn p rest

/-- R212: the nibble of a valid pattern, `none` for an invalid one. -/
def gcrLookup (p : GcrCode) : Option Nibble := lookupIn p gcrTable

/-- The pattern of a nibble in a list of table entries. -/
def patternIn (n : Nibble) : List (GcrCode × Nibble) → Option GcrCode
  | [] => none
  | (p, m) :: rest => if n = m then some p else patternIn n rest

/-- The pattern of a nibble (R211: the table is a bijection, so every nibble has one). -/
def gcrPattern (n : Nibble) : GcrCode := (patternIn n gcrTable).getD 0

/-- R220: `tlm_period_us = zext_16(m) << e`. -/
def erpmPeriod (e : BitVec 3) (m : BitVec 9) : Word16 := m.setWidth 16 <<< e.toNat

end Sys2Proof.Machine
end

