-- ==== Sys2Proof/Machine/Timing.lean ====
section
/-! DEFINITION. The timing configuration (40_timing_config.md): the counts derived from the sample rate and the baud option, and
the check that reset makes of them. -/

namespace Sys2Proof.Machine

/-- The derived timing registers (R25), all sample counts but `baud`, which is in bit/s. -/
structure Timing where
  /-- `BAUD` (21 bits). -/
  baud : Nat
  /-- `BP`, the samples per command bit (32 bits). -/
  bp : Nat
  /-- `T`, the inactivity timeout (34 bits). -/
  t : Nat
  /-- `H`, half a telemetry bit (32 bits). -/
  h : Nat
deriving DecidableEq, Repr

/-- R110, R130: the baud rates in the order of their codes. -/
def baudTable : Vector Nat 4 := #v[150000, 300000, 600000, 1200000]

/-- R130: `BAUD` of a configuration code. -/
def baudOf (sel : BitVec 2) : Nat := baudTable[sel.toNat]

/-- R131: `BP = sample_rate / BAUD`, floor division. -/
def bitPeriod (sampleRate : BitVec 32) (baud : Nat) : Nat := sampleRate.toNat / baud

/-- R132: `T = TIMEOUT_MULT * BP`. -/
def timeoutSamples (bp : Nat) : Nat := Config.timeoutMult * bp

/-- R133: `H = (sample_rate * TLM_RATE_DEN) / (2 * BAUD * TLM_RATE_NUM)`, one truncation of the exact ratio. -/
def halfBit (sampleRate : BitVec 32) (baud : Nat) : Nat :=
  (sampleRate.toNat * Config.tlmRateDen) / (2 * baud * Config.tlmRateNum)

/-- R25, R130 to R133: the derived registers of a latched configuration. -/
def deriveTiming (sampleRate : BitVec 32) (sel : BitVec 2) : Timing :=
  { baud := baudOf sel
    bp := bitPeriod sampleRate (baudOf sel)
    t := timeoutSamples (bitPeriod sampleRate (baudOf sel))
    h := halfBit sampleRate (baudOf sel) }

/-- R134: the configuration check, which raises ConfigurationError. -/
def cfgError (sampleRate : BitVec 32) (bidir : Bool) (tim : Timing) : Bool :=
  decide (sampleRate = 0#32) || decide (tim.bp = 0) || (bidir && decide (tim.h = 0))

end Sys2Proof.Machine
end

