-- ==== Sys2Proof/Syntax.lean ====
section
/-! DEFINITION. The code spaces of 30_encoding.md and the instructions: one constructor per row of spec/opcode_table.json. -/

namespace Sys2Proof

/-- The nine formats of the opcode table. Each is a code space of its own (R90 to R110): a word means nothing before its
format is known, and the machine always knows it from the place the word stands in. -/
inductive Format where
  | step8      -- the step-select word (R90, R91)
  | gcr5       -- one GCR group (R108)
  | baudSel2   -- the configuration code `baud_sel` (R110)
  | cmd16      -- a complete command frame (R100)
  | tlm21      -- a raw telemetry frame (R103)
  | tlm20d     -- the four GCR groups after the differential decode (R104)
  | tlm16      -- the decoded telemetry word (R105)
  | erpm12     -- the ERPM payload (R106)
  | edt12      -- the extended-telemetry payload (R107)
deriving DecidableEq, Repr

/-- The width of a format's words, in bits (R90, R100, R103 to R110). -/
def Format.width : Format → Nat
  | .step8 => 8
  | .gcr5 => 5
  | .baudSel2 => 2
  | .cmd16 => 16
  | .tlm21 => 21
  | .tlm20d => 20
  | .tlm16 => 16
  | .erpm12 => 12
  | .edt12 => 12

/-- The instructions: the eleven step operations (R91), the thirty-two GCR codes (R108), the four baud options (R110) and the
six data formats (R100 to R107), each with the fields its row of the table names as operands. -/
inductive Instr where
  | halt   -- HALT
  | cmdStartEdge   -- CMD_START_EDGE
  | cmdEndEdge   -- CMD_END_EDGE
  | cmdTimeout   -- CMD_TIMEOUT
  | cmdIdle   -- CMD_IDLE
  | tlmExpire   -- TLM_EXPIRE
  | tlmStart   -- TLM_START
  | tlmWait   -- TLM_WAIT
  | tlmSample   -- TLM_SAMPLE
  | tlmFinish   -- TLM_FINISH
  | tlmSkip   -- TLM_SKIP
  | gcr00000Invalid   -- GCR_00000_INVALID
  | gcr00001Invalid   -- GCR_00001_INVALID
  | gcr00010Invalid   -- GCR_00010_INVALID
  | gcr00011Invalid   -- GCR_00011_INVALID
  | gcr00100Invalid   -- GCR_00100_INVALID
  | gcr00101Invalid   -- GCR_00101_INVALID
  | gcr00110Invalid   -- GCR_00110_INVALID
  | gcr00111Invalid   -- GCR_00111_INVALID
  | gcr01000Invalid   -- GCR_01000_INVALID
  | gcr01001   -- GCR_01001
  | gcr01010   -- GCR_01010
  | gcr01011   -- GCR_01011
  | gcr01100Invalid   -- GCR_01100_INVALID
  | gcr01101   -- GCR_01101
  | gcr01110   -- GCR_01110
  | gcr01111   -- GCR_01111
  | gcr10000Invalid   -- GCR_10000_INVALID
  | gcr10001Invalid   -- GCR_10001_INVALID
  | gcr10010   -- GCR_10010
  | gcr10011   -- GCR_10011
  | gcr10100Invalid   -- GCR_10100_INVALID
  | gcr10101   -- GCR_10101
  | gcr10110   -- GCR_10110
  | gcr10111   -- GCR_10111
  | gcr11000Invalid   -- GCR_11000_INVALID
  | gcr11001   -- GCR_11001
  | gcr11010   -- GCR_11010
  | gcr11011   -- GCR_11011
  | gcr11100Invalid   -- GCR_11100_INVALID
  | gcr11101   -- GCR_11101
  | gcr11110   -- GCR_11110
  | gcr11111Invalid   -- GCR_11111_INVALID
  | baud150000   -- BAUD_150000
  | baud300000   -- BAUD_300000
  | baud600000   -- BAUD_600000
  | baud1200000   -- BAUD_1200000
  | cmdFrame (value : BitVec 11) (treq : BitVec 1) (crc : Nibble) (data12 : Data12)   -- CMD_FRAME
  | tlmRaw (start : BitVec 1) (x : Data20)   -- TLM_RAW
  | tlmGcrGroups (g0 g1 g2 g3 : GcrCode)   -- TLM_GCR_GROUPS
  | tlmDecoded (payload : Data12) (crc : Nibble)   -- TLM_DECODED
  | tlmErpm (e : BitVec 3) (m : BitVec 9)   -- TLM_ERPM
  | tlmEdt (payload : Data12)   -- TLM_EDT
deriving DecidableEq, Repr

end Sys2Proof
end

