-- ==== Sys2Proof/Machine/State.lean ====
section
/-! DEFINITION. The machine's state: every register, port and output of 10_state.md, as plain data, and the state after reset. -/

namespace Sys2Proof.Machine

/-- `phase` (R28): the four states of the protocol state machine; no other value exists. -/
inductive Phase where
  | awaitCmd   -- AWAIT_CMD: no command bit is being timed
  | recvCmd    -- RECV_CMD: a start edge of the current command frame has been seen
  | awaitTlm   -- AWAIT_TLM: waiting for the telemetry falling edge
  | recvTlm    -- RECV_TLM: sampling the bits of a telemetry frame
deriving DecidableEq, Repr

/-- The errors of R300; codes 6 and 7 are reserved and never driven, so they have no name. -/
inductive ErrCode where
  | none                 -- 0
  | configurationError   -- 1 (R301)
  | bitTimingError       -- 2 (R302)
  | checksumMismatch     -- 3 (R303)
  | gcrDecodeError       -- 4 (R304)
  | frameIncomplete      -- 5 (R305), never driven
deriving DecidableEq, Repr

/-- `bit_kind` (R41). -/
inductive BitKind where
  | command     -- 0
  | telemetry   -- 1
deriving DecidableEq, Repr

/-- `tlm_kind` (R43); 3 is never driven, so it has no name. -/
inductive TlmKind where
  | none                -- 0
  | erpm                -- 1 (R220)
  | edtNotImplemented   -- 2 (R221)
deriving DecidableEq, Repr

/-- The configuration inputs (R6, R20) and, latched, the registers CFG0 to CFG4 (R24). -/
structure CfgInputs where
  /-- `sample_rate` in Hz. -/
  sampleRate : BitVec 32
  /-- `baud_sel`. -/
  baudSel : BitVec 2
  /-- `bidirectional`. -/
  bidir : Bool
  /-- `extended_telemetry_forced`. -/
  edtForced : Bool
  /-- `max_telem_wait` in samples. -/
  maxTelemWait : BitVec 64
deriving DecidableEq, Repr

/-- A move of the host (R82). Accepting a result sends nothing, and stopping is the end of the list of moves. -/
inductive HostMove where
  | reset (cfg : CfgInputs)   -- `rst` with the five configuration inputs
  | sample (din : Bool)       -- one line level
deriving DecidableEq, Repr

/-- The input ports (R20), as the host last presented them. -/
structure Ports where
  /-- `rst`. -/
  rst : Bool
  /-- `din`; true is high. -/
  din : Bool
  /-- The five configuration inputs. -/
  cfg : CfgInputs
deriving DecidableEq, Repr

/-- `prev_din` and `prev_valid` (R29). -/
structure Line where
  prevDin : Bool
  prevValid : Bool
deriving DecidableEq, Repr

/-- The pending-bit registers (R30). An index whose valid flag is false is stale. -/
structure Pending where
  psV : Bool
  ps : Nat
  pmV : Bool
  pm : Nat
deriving DecidableEq, Repr

/-- The command-frame accumulator (R32). -/
structure CmdAcc where
  /-- `cmd_sr`: the last 16 bits appended, the most recent in bit 0. -/
  sr : Word16
  /-- `cmd_cnt`: the bits appended, saturating at 17. -/
  cnt : Nat
  /-- `cmd_start`. -/
  startIdx : Nat
  /-- `cmd_last_end`. -/
  lastEnd : Nat
deriving DecidableEq, Repr

/-- The last checksum-valid command frame (R33). -/
structure LastCmd where
  /-- `lc_v`. -/
  v : Bool
  /-- `lc_end`. -/
  endIdx : Nat
deriving DecidableEq, Repr

/-- The telemetry-frame accumulator (R34). -/
structure TlmAcc where
  /-- `tlm_t0`. -/
  t0 : Nat
  /-- `tlm_sr`. -/
  sr : Raw21
  /-- `tlm_cnt`, 0 to 21. -/
  cnt : Nat
  /-- `tlm_next`. -/
  next : Nat
deriving DecidableEq, Repr

/-- The bit record (R41). -/
structure BitRecord where
  v : Bool
  kind : BitKind
  startIdx : Nat
  mid : Nat
  endIdx : Nat
  val : Bool
  terr : Bool
deriving DecidableEq, Repr

/-- The command-frame record (R42). -/
structure CmdRecord where
  v : Bool
  value : BitVec 11
  treq : BitVec 1
  crcRx : Nibble
  crcCalc : Nibble
  crcOk : Bool
  overlong : Bool
  word : Word16
  startIdx : Nat
  endIdx : Nat
deriving DecidableEq, Repr

/-- The telemetry-frame record (R43). -/
structure TlmRecord where
  v : Bool
  raw : Raw21
  gcrOk : Bool
  badGroup : BitVec 2
  badPattern : GcrCode
  decoded : Word16
  payload : Data12
  crcRx : Nibble
  crcCalc : Nibble
  crcOk : Bool
  kind : TlmKind
  exp : BitVec 3
  mant : BitVec 9
  periodUs : Word16
  startIdx : Nat
  endIdx : Nat
deriving DecidableEq, Repr

/-- The values the telemetry decoder's pseudocode names with `let` (R216), as the signals they are in the step that decodes a
frame: the model's own view of them, cleared at every step like the records (log 10). -/
structure Wires where
  /-- `d`, the differential decode of the data bits. -/
  diff : Data20
  /-- `n[0..]`, the group lookups made so far, MSB first; `none` is Invalid. -/
  lanes : List (Option Nibble)
deriving DecidableEq, Repr

/-- What a step drives (R40 to R44). -/
structure Outputs where
  bit : BitRecord
  cmd : CmdRecord
  tlm : TlmRecord
  /-- `ev_tlm_expired`. -/
  evTlmExpired : Bool
  /-- `err_code`. -/
  errCode : ErrCode
  /-- `st_phase`. -/
  stPhase : Phase
  /-- `st_halted`. -/
  stHalted : Bool
  wires : Wires
deriving DecidableEq, Repr

/-- An invalid bit record: every field 0 (R40). -/
def BitRecord.invalid : BitRecord :=
  { v := false, kind := .command, startIdx := 0, mid := 0, endIdx := 0, val := false, terr := false }

/-- An invalid command-frame record: every field 0 (R40). -/
def CmdRecord.invalid : CmdRecord :=
  { v := false, value := 0, treq := 0, crcRx := 0, crcCalc := 0, crcOk := false, overlong := false, word := 0,
    startIdx := 0, endIdx := 0 }

/-- An invalid telemetry-frame record: every field 0 (R40). -/
def TlmRecord.invalid : TlmRecord :=
  { v := false, raw := 0, gcrOk := false, badGroup := 0, badPattern := 0, decoded := 0, payload := 0, crcRx := 0,
    crcCalc := 0, crcOk := false, kind := .none, exp := 0, mant := 0, periodUs := 0, startIdx := 0, endIdx := 0 }

/-- The decoder's signals in a step that decodes no telemetry frame. -/
def Wires.idle : Wires := { diff := 0, lanes := [] }

/-- No record valid, no event and no error, with the given status (R240, first line; R44). -/
def Outputs.quiet (phase : Phase) (halted : Bool) : Outputs :=
  { bit := .invalid, cmd := .invalid, tlm := .invalid, evTlmExpired := false, errCode := .none, stPhase := phase,
    stHalted := halted, wires := .idle }

/-- The machine's state: the host's moves not yet taken (the model's own field, log 1), the input ports (R20), the registers of
R21 and R24 to R34, and the outputs of the last step (R40 to R44). Sample indices are natural numbers, as R21 lets a model hold
them: R7 makes their arithmetic exact, and R26 keeps them within their 64 bits. -/
structure State where
  /-- The host's moves not yet taken, oldest first (log 1). -/
  inputs : List HostMove
  /-- The input ports (R20). -/
  ports : Ports
  /-- CFG0 to CFG4 (R24). -/
  cfg : CfgInputs
  /-- `BAUD`, `BP`, `T`, `H` (R25). -/
  tim : Timing
  /-- `halted` (R27). -/
  halted : Bool
  /-- `sidx` (R21). -/
  sidx : Nat
  /-- `phase` (R28). -/
  phase : Phase
  /-- `prev_din`, `prev_valid` (R29). -/
  line : Line
  /-- The pending bit (R30). -/
  pend : Pending
  /-- `last_evt` (R31). -/
  lastEvt : Nat
  /-- The command-frame accumulator (R32). -/
  cmd : CmdAcc
  /-- The last checksum-valid command frame (R33). -/
  lc : LastCmd
  /-- The telemetry-frame accumulator (R34). -/
  tlm : TlmAcc
  /-- The outputs of the last step (R40 to R44). -/
  out : Outputs
deriving DecidableEq, Repr

/-- What R309 calls a fault. No step and no meaning answers with one: the block reports every error as a value and goes on. -/
inductive Fault where
  /-- ConfigurationError (R301, R306, R309): names the quiescent halted state for `Safety.faultOf`. Raised by nobody as an
  outcome: a halted block goes on performing HALT, whose effect R242 gives (log 8). Safe: nothing stops that the spec lets run. -/
  | configurationError
deriving DecidableEq, Repr

/-- Why a step can give no next state. -/
inductive Refusal where
  /-- An instruction with no meaning yet, refused by exec's arm. Safe. No arm does it in this model. -/
  | notModelled (mnemonic : String)
  /-- Raised by `step` when a sample of index `Config.sampleLimit` or later is presented to a running block: R309 says that such a
  stream is refused, and R21 that its behaviour is outside the spec (log 5). Safe: nothing is claimed of it. -/
  | streamTooLong
deriving DecidableEq, Repr

/-- `reset(cfg)` (R340, R46): a new session from the configuration inputs at the ports. Every record is invalid; an erroneous
configuration raises ConfigurationError in the reset itself (R134, R300; log 7). -/
def State.afterReset (ports : Ports) (inputs : List HostMove) : State :=
  let cfg := ports.cfg
  let tim := deriveTiming cfg.sampleRate cfg.baudSel
  let bad := cfgError cfg.sampleRate cfg.bidir tim
  { inputs := inputs
    ports := ports
    cfg := cfg
    tim := tim
    halted := bad
    sidx := 0
    phase := .awaitCmd
    line := { prevDin := false, prevValid := false }
    pend := { psV := false, ps := 0, pmV := false, pm := 0 }
    lastEvt := 0
    cmd := { sr := 0, cnt := 0, startIdx := 0, lastEnd := 0 }
    lc := { v := false, endIdx := 0 }
    tlm := { t0 := 0, sr := 0, cnt := 0, next := 0 }
    out := { Outputs.quiet .awaitCmd bad with errCode := if bad then .configurationError else .none } }

/-- The configuration inputs of the reset that State.reset stands for. DESIGN CHOICE (log 3): the spec makes them inputs. -/
def CfgInputs.atReset : CfgInputs :=
  { sampleRate := Config.resetSampleRate, baudSel := Config.resetBaudSel, bidir := Config.resetBidir,
    edtForced := Config.resetEdtForced, maxTelemWait := Config.resetMaxTelemWait }

/-- The ports in that reset: `rst` asserted, `din` low (DESIGN CHOICE, log 4). -/
def Ports.atReset : Ports := { rst := true, din := false, cfg := .atReset }

/-- The machine right after reset (R340, R46), with the configuration of log 3 and no move of the host placed (log 2). -/
def State.reset : State := State.afterReset .atReset []

end Sys2Proof.Machine
end

