-- ==== Sys2Proof/Machine/Operands.lean ====
section
/-! DEFINITION. What a step operation reads: the edges at the current sample (R150, R152), the timers (R315), the step-select word
(R90), and the port codes of the named values. -/

namespace Sys2Proof.Machine

/-- The encoding of `phase` (R28). -/
def phaseBits : Phase → BitVec 2
  | .awaitCmd => 0
  | .recvCmd => 1
  | .awaitTlm => 2
  | .recvTlm => 3

/-- The code driven on `err_code` (R300). -/
def errBits : ErrCode → BitVec 3
  | .none => 0
  | .configurationError => 1
  | .bitTimingError => 2
  | .checksumMismatch => 3
  | .gcrDecodeError => 4
  | .frameIncomplete => 5

/-- The code driven on `bit_kind` (R41). -/
def bitKindBits : BitKind → BitVec 1
  | .command => 0
  | .telemetry => 1

/-- The code driven on `tlm_kind` (R43). -/
def tlmKindBits : TlmKind → BitVec 2
  | .none => 0
  | .erpm => 1
  | .edtNotImplemented => 2

/-- R150: an edge at the current sample. -/
def edgeNow (s : State) : Bool := s.line.prevValid && (s.ports.din != s.line.prevDin)

/-- R150: a rising edge at the current sample. -/
def riseNow (s : State) : Bool := edgeNow s && s.ports.din

/-- R150: a falling edge at the current sample. -/
def fallNow (s : State) : Bool := edgeNow s && !s.ports.din

/-- R152: a command start edge at the current sample. -/
def startEdgeNow (s : State) : Bool := if s.cfg.bidir then riseNow s else fallNow s

/-- R152: a command end edge at the current sample. -/
def endEdgeNow (s : State) : Bool := if s.cfg.bidir then fallNow s else riseNow s

/-- R90, R315: `S[1]`, the timer that the phase looks at. The subtractions are of naturals; in every reachable state their
origins are not in the future (R35, R260; log 6). -/
def timerHit (s : State) : Bool :=
  match s.phase with
  | .awaitCmd => decide (s.sidx - s.lastEvt = s.tim.t)
  | .recvCmd => decide (s.sidx - s.lastEvt = s.tim.t)
  | .awaitTlm => decide (s.sidx - s.lc.endIdx > s.cfg.maxTelemWait.toNat)
  | .recvTlm => decide (s.sidx = s.tlm.next)

/-- R90: `S[0]`, the telemetry accumulator holds a whole frame. -/
def tlmFull (s : State) : Bool := decide (s.tlm.cnt = Config.tlmFrameBits)

/-- R90: the step-select word of the current sample. -/
def stepSelect (s : State) : SelectWord :=
  packSelect s.halted (phaseBits s.phase) (startEdgeNow s) (endEdgeNow s) (fallNow s) (timerHit s) (tlmFull s)

end Sys2Proof.Machine
end

