-- ==== Sys2Proof/Machine/Ops.lean ====
section
/-! DEFINITION. The named operations over the registers and the outputs: what every step does around its operation (R240, R243,
R44), the one way an error is raised (R7, R300), the two accumulators (42_frame_accumulators.md), the stages of the telemetry
decode (44_gcr_telemetry.md), and reset (R340). The block has no trap entry and no return (R311, R312). -/

namespace Sys2Proof.Machine

/-- A change of the outputs of the current step, and of nothing else. -/
def drive (f : Outputs → Outputs) (s : State) : State := { s with out := f s.out }

/-- R240, first line: all records invalid, no event, no error. -/
def beginStep (s : State) : State := { s with out := Outputs.quiet s.phase s.halted }

/-- R243: the epilogue of every step operation but HALT. -/
def epilogue (s : State) : State :=
  { s with line := { prevDin := s.ports.din, prevValid := true }, sidx := s.sidx + 1 }

/-- R44, R240, last line: the status outputs, from the state after the step. -/
def driveStatus (s : State) : State := drive (fun o => { o with stPhase := s.phase, stHalted := s.halted }) s

/-- R7, R300, R311: raising an error drives its code on `err_code` in this step; it saves nothing and transfers control nowhere. -/
def raiseError (e : ErrCode) (s : State) : State := drive (fun o => { o with errCode := e }) s

/-- R7, R41: drive the bit record. -/
def emitBit (r : BitRecord) (s : State) : State := drive (fun o => { o with bit := r }) s

/-- R23: `phase <- p`, the block's only control transfer. -/
def goTo (p : Phase) (s : State) : State := { s with phase := p }

/-- R31: a new inactivity window begins at sample `i`. -/
def restartWindow (i : Nat) (s : State) : State := { s with lastEvt := i }

/-- R240: a step operation that is not HALT: its own effect between the clearing of the outputs and the epilogue and status. -/
def runOperation (body : State → State) (s : State) : State := driveStatus (epilogue (body (beginStep s)))

/-! ## Command-frame accumulator -/

/-- R170: append the bit `v` whose end boundary is `e`. -/
def cmdAppend (v : Bool) (e : Nat) (s : State) : State :=
  { s with cmd := { s.cmd with sr := shiftIn s.cmd.sr v, cnt := min (s.cmd.cnt + 1) Config.cmdCntMax, lastEnd := e } }

/-- R172: empty the accumulator and the pending bit. -/
def cmdClear (s : State) : State :=
  { s with cmd := { s.cmd with sr := 0, cnt := 0 }, pend := { s.pend with psV := false, pmV := false } }

/-- R154, R156: the record of the pending bit with the end boundary `e`. -/
def pendingBit (e : Nat) (s : State) : BitRecord :=
  { v := true, kind := .command, startIdx := s.pend.ps, mid := s.pend.pm, endIdx := e,
    val := classifyCommandBit s.pend.ps s.pend.pm e, terr := false }

/-- R244, R250: if the pending bit is fully timed, classify it with the end boundary `e`, emit it and append it. -/
def flushPending (e : Nat) (s : State) : State :=
  if s.pend.psV && s.pend.pmV then
    cmdAppend (classifyCommandBit s.pend.ps s.pend.pm e) e (emitBit (pendingBit e s) s)
  else s

/-- R176: the record of a complete command frame. -/
def cmdRecordOf (value : BitVec 11) (treq : BitVec 1) (crc : Nibble) (data12 : Data12) (s : State) : CmdRecord :=
  { v := true, value := value, treq := treq, crcRx := crc,
    crcCalc := computeChecksum data12 s.cfg.bidir,
    crcOk := validateChecksum data12 crc s.cfg.bidir,
    overlong := decide (s.cmd.cnt > Config.cmdFrameBits),
    word := cmdWordOf value treq crc,
    startIdx := s.cmd.startIdx, endIdx := s.cmd.lastEnd }

/-- R176, for a complete frame: emit the record of the frame's fields, and raise ChecksumMismatch if its checksum is wrong. -/
def emitCmdFrame (value : BitVec 11) (treq : BitVec 1) (crc : Nibble) (data12 : Data12) (s : State) : State :=
  let s1 := drive (fun o => { o with cmd := cmdRecordOf value treq crc data12 s }) s
  if validateChecksum data12 crc s.cfg.bidir then s1 else raiseError .checksumMismatch s1

/-- What `cmd_finalize` returns (R176). -/
inductive CmdResult where
  | incomplete             -- FrameIncomplete, not surfaced (R305)
  | complete (ok : Bool)   -- a record was emitted; `ok` is its `crc_ok`
deriving DecidableEq, Repr

/-- R176, R178: what the accumulated frame amounts to. -/
def cmdResult (s : State) : CmdResult :=
  if s.cmd.cnt < Config.cmdFrameBits then .incomplete
  else .complete (validateChecksum (cmdData12 s.cmd.sr) (cmdCrc s.cmd.sr) s.cfg.bidir)

/-- R176: finalise the accumulated frame: a frame of fewer than 16 bits emits nothing. -/
def cmdFinalize (s : State) : State :=
  if s.cmd.cnt < Config.cmdFrameBits then s
  else emitCmdFrame (cmdValue s.cmd.sr) (cmdTreq s.cmd.sr) (cmdCrc s.cmd.sr) (cmdData12 s.cmd.sr) s

/-- R250, R253: what the finalised frame does to the session: a checksum-valid frame is remembered and, in bidirectional mode,
opens the telemetry wait. -/
def closeFrame (r : CmdResult) (s : State) : State :=
  match r with
  | .incomplete => goTo .awaitCmd s
  | .complete false => goTo .awaitCmd s
  | .complete true =>
    goTo (if s.cfg.bidir then .awaitTlm else .awaitCmd) { s with lc := { v := true, endIdx := s.cmd.lastEnd } }

/-! ## Telemetry-frame accumulator -/

/-- R180: a telemetry frame begins at the falling edge at sample `i`. -/
def tlmBegin (i : Nat) (s : State) : State :=
  { s with tlm := { t0 := i, sr := 0, cnt := 0, next := i + s.tim.h } }

/-- R181: append a telemetry bit. -/
def tlmAppend (v : Bool) (s : State) : State :=
  { s with tlm := { s.tlm with sr := shiftIn s.tlm.sr v, cnt := s.tlm.cnt + 1 } }

/-- R264: the next event after a bit was appended at sample `i`: a whole bit later, or half a bit after the last one. -/
def tlmAdvance (i : Nat) (s : State) : State :=
  { s with tlm := { s.tlm with
      next := if s.tlm.cnt < Config.tlmFrameBits then i + 2 * s.tim.h else i + s.tim.h } }

/-! ## The stages of the telemetry decode (R216), each driving its own fields of the record -/

/-- R103, R215: the raw frame is reported, and its data bits are decoded differentially; the start-framing bit is discarded. -/
def driveRaw (raw : Raw21) (s : State) : State :=
  drive (fun o => { o with tlm := { o.tlm with raw := raw }, wires := { o.wires with diff := diffDecode (rawData raw) } }) s

/-- R212, R213: look one group up, as the next lane, MSB first. The first invalid group is named in the record and raises
GcrDecodeError (log 20). -/
def lookupLane (p : GcrCode) (s : State) : State :=
  let before := s.out.wires.lanes
  let s1 := drive (fun o => { o with wires := { o.wires with lanes := before ++ [gcrLookup p] } }) s
  if (gcrLookup p).isSome || !(before.all Option.isSome) then s1
  else
    raiseError .gcrDecodeError
      (drive (fun o => { o with tlm := { o.tlm with
        gcrOk := false, badGroup := BitVec.ofNat 2 before.length, badPattern := p } }) s1)

/-- R104, R216: the decoded word of four valid lanes, the first most significant. -/
def concatLanes : List (Option Nibble) → Option Word16
  | [some n0, some n1, some n2, some n3] => some (n0 ++ n1 ++ n2 ++ n3)
  | _ => none

/-- R218: the decoded fields of a record whose groups did not all decode. -/
def clearDecoded (r : TlmRecord) : TlmRecord :=
  { r with decoded := 0, payload := 0, crcRx := 0, crcCalc := 0, crcOk := false, kind := .none, exp := 0, mant := 0,
           periodUs := 0 }

/-- R214, R216, R218: the four lanes, and the decoded word if every group is valid. -/
def driveGroups (g0 g1 g2 g3 : GcrCode) (s : State) : State :=
  let s0 := drive (fun o => { o with wires := { o.wires with lanes := [] } }) s
  let s1 := lookupLane g3 (lookupLane g2 (lookupLane g1 (lookupLane g0 s0)))
  match concatLanes s1.out.wires.lanes with
  | some w => drive (fun o => { o with tlm := { o.tlm with gcrOk := true, badGroup := 0, badPattern := 0, decoded := w } }) s1
  | none => drive (fun o => { o with tlm := clearDecoded o.tlm }) s1

/-- R105, R217: the decoded word's payload and checksum, and ChecksumMismatch if the checksum is wrong (log 20). -/
def driveDecoded (payload : Data12) (crc : Nibble) (s : State) : State :=
  let s1 := drive (fun o => { o with tlm := { o.tlm with
    decoded := decodedOf payload crc, payload := payload, crcRx := crc,
    crcCalc := computeChecksum payload s.cfg.bidir, crcOk := validateChecksum payload crc s.cfg.bidir } }) s
  if validateChecksum payload crc s.cfg.bidir then s1 else raiseError .checksumMismatch s1

/-- R106, R220: the ERPM reading of a payload. -/
def driveErpm (e : BitVec 3) (m : BitVec 9) (s : State) : State :=
  drive (fun o => { o with tlm := { o.tlm with kind := .erpm, exp := e, mant := m, periodUs := erpmPeriod e m } }) s

/-- R107, R221: the extended-telemetry outcome: the payload as it is, not implemented, no field extracted, no error. -/
def driveEdt (payload : Data12) (s : State) : State :=
  drive (fun o => { o with tlm := { o.tlm with
    payload := payload, kind := .edtNotImplemented, exp := 0, mant := 0, periodUs := 0 } }) s

/-- R219: the interpretation, gated by `edt_forced` and run whatever `crc_ok` is. -/
def interpretPayload (payload : Data12) (s : State) : State :=
  if s.cfg.edtForced then driveEdt payload s else driveErpm (erpmExp payload) (erpmMant payload) s

/-- R216: the whole decode of a raw frame: its stages in order, stopping after the groups if one is invalid. -/
def decodeFrame (raw : Raw21) (s : State) : State :=
  let s1 := driveRaw raw s
  let d := s1.out.wires.diff
  let s2 := driveGroups (group0 d) (group1 d) (group2 d) (group3 d) s1
  if s2.out.tlm.gcrOk then
    let w := s2.out.tlm.decoded
    interpretPayload (decodedPayload w) (driveDecoded (decodedPayload w) (decodedCrc w) s2)
  else s2

/-- R185, R187: finalise the telemetry frame at sample `i`. -/
def tlmFinalize (i : Nat) (s : State) : State :=
  decodeFrame s.tlm.sr
    (drive (fun o => { o with tlm := { o.tlm with v := true, startIdx := s.tlm.t0, endIdx := i } }) s)

/-! ## Reset -/

/-- R340, R341: take the reset with the configuration inputs at the ports and the baud code `sel`; the session in progress is
discarded, no sample is consumed and no record is emitted. -/
def takeReset (sel : BitVec 2) (s : State) : State :=
  State.afterReset { s.ports with cfg := { s.ports.cfg with baudSel := sel } } s.inputs

end Sys2Proof.Machine
end

