-- ==== Sys2Proof/Machine/Baud.lean ====
section
/-! DEFINITION. The meanings of the four baud options (R110, R130): the code is decoded when a reset latches it, so each is the
reset that takes it (R340; log 9). -/

namespace Sys2Proof.Machine

/-- BAUD_150000: `baud_sel = 0` is latched by reset (R110, R340). -/
def execBaud150000 (s : State) : Host.Outcome State Fault Refusal := .next (takeReset 0#2 s)

/-- BAUD_300000: `baud_sel = 1` is latched by reset (R110, R340). -/
def execBaud300000 (s : State) : Host.Outcome State Fault Refusal := .next (takeReset 1#2 s)

/-- BAUD_600000: `baud_sel = 2` is latched by reset (R110, R340). -/
def execBaud600000 (s : State) : Host.Outcome State Fault Refusal := .next (takeReset 2#2 s)

/-- BAUD_1200000: `baud_sel = 3` is latched by reset (R110, R340). -/
def execBaud1200000 (s : State) : Host.Outcome State Fault Refusal := .next (takeReset 3#2 s)

end Sys2Proof.Machine
end

