-- ==== Sys2Proof/Machine/CommandPhase.lean ====
section
/-! DEFINITION. The meanings of HALT and of the command-phase step operations (45_state_machine.md, sections 1 and 2). -/

namespace Sys2Proof.Machine

/-- HALT (R242): no register changes; `err_code = 1` and `st_halted` are driven, `din` is ignored, no epilogue. -/
def execHalt (s : State) : Host.Outcome State Fault Refusal :=
  .next (driveStatus (raiseError .configurationError (beginStep s)))

/-- R244: a start edge at the current sample: flush the previous bit if it is fully timed, then time a new bit. -/
def cmdStartEdge (s : State) : State :=
  let i := s.sidx
  let s1 := flushPending i s
  let s2 : State :=
    match s1.phase with
    | .awaitCmd => { s1 with cmd := { s1.cmd with startIdx := i } }
    | .recvCmd => s1
    | .awaitTlm => s1
    | .recvTlm => s1
  goTo .recvCmd (restartWindow i { s2 with pend := { s2.pend with ps := i, psV := true, pmV := false } })

/-- CMD_START_EDGE (R244). -/
def execCmdStartEdge (s : State) : Host.Outcome State Fault Refusal := .next (runOperation cmdStartEdge s)

/-- R246: an end edge at the current sample: it completes the pending bit's duty, or is ignored; the window restarts. -/
def cmdEndEdge (s : State) : State :=
  let i := s.sidx
  let s1 : State := if s.pend.psV && !s.pend.pmV then { s with pend := { s.pend with pm := i, pmV := true } } else s
  restartWindow i s1

/-- CMD_END_EDGE (R246). -/
def execCmdEndEdge (s : State) : Host.Outcome State Fault Refusal := .next (runOperation cmdEndEdge s)

/-- R250: the inactivity timeout: flush the last bit with the boundary `ps + BP`, finalise the frame, clear, restart. -/
def cmdTimeout (s : State) : State :=
  let i := s.sidx
  let s1 := flushPending (s.pend.ps + s.tim.bp) s
  restartWindow i (cmdClear (closeFrame (cmdResult s1) (cmdFinalize s1)))

/-- CMD_TIMEOUT (R250). -/
def execCmdTimeout (s : State) : Host.Outcome State Fault Refusal := .next (runOperation cmdTimeout s)

/-- CMD_IDLE (R248): nothing but the epilogue. -/
def execCmdIdle (s : State) : Host.Outcome State Fault Refusal := .next (runOperation id s)

end Sys2Proof.Machine
end

