-- ==== Sys2Proof/Machine/Formats.lean ====
section
/-! DEFINITION. The meanings of the six data formats: the part of a finaliser that reads a word of the format and drives its fields
of the frame record (R176, R216; log 9). -/

namespace Sys2Proof.Machine

/-- CMD_FRAME (R100, R176): the record of a complete command frame with these fields. -/
def execCmdFrame (value : BitVec 11) (treq : BitVec 1) (crc : Nibble) (data12 : Data12) (s : State) :
    Host.Outcome State Fault Refusal :=
  .next (emitCmdFrame value treq crc data12 s)

/-- TLM_RAW (R103, R215): the raw frame and its differential decode. -/
def execTlmRaw (start : BitVec 1) (x : Data20) (s : State) : Host.Outcome State Fault Refusal :=
  .next (driveRaw (rawOf start x) s)

/-- TLM_GCR_GROUPS (R104, R214, R216): the four lookups and the decoded word. -/
def execTlmGcrGroups (g0 g1 g2 g3 : GcrCode) (s : State) : Host.Outcome State Fault Refusal :=
  .next (driveGroups g0 g1 g2 g3 s)

/-- TLM_DECODED (R105, R217): the payload and the checksum. -/
def execTlmDecoded (payload : Data12) (crc : Nibble) (s : State) : Host.Outcome State Fault Refusal :=
  .next (driveDecoded payload crc s)

/-- TLM_ERPM (R106, R220): the ERPM reading. -/
def execTlmErpm (e : BitVec 3) (m : BitVec 9) (s : State) : Host.Outcome State Fault Refusal :=
  .next (driveErpm e m s)

/-- TLM_EDT (R107, R221): the not-implemented outcome. -/
def execTlmEdt (payload : Data12) (s : State) : Host.Outcome State Fault Refusal :=
  .next (driveEdt payload s)

end Sys2Proof.Machine
end

