-- ==== Sys2Proof/Machine/Gcr.lean ====
section
/-! DEFINITION. The meanings of the thirty-two GCR codes (44_gcr_telemetry.md, section 1): each is the lookup of its own pattern in
the next lane of the telemetry decode (R212, R213, R216; log 9). -/

namespace Sys2Proof.Machine

/-- GCR_00000_INVALID: invalid (R213). -/
def execGcr00000Invalid (s : State) : Host.Outcome State Fault Refusal := .next (lookupLane 0b00000 s)

/-- GCR_00001_INVALID: invalid (R213). -/
def execGcr00001Invalid (s : State) : Host.Outcome State Fault Refusal := .next (lookupLane 0b00001 s)

/-- GCR_00010_INVALID: invalid (R213). -/
def execGcr00010Invalid (s : State) : Host.Outcome State Fault Refusal := .next (lookupLane 0b00010 s)

/-- GCR_00011_INVALID: invalid (R213). -/
def execGcr00011Invalid (s : State) : Host.Outcome State Fault Refusal := .next (lookupLane 0b00011 s)

/-- GCR_00100_INVALID: invalid (R213). -/
def execGcr00100Invalid (s : State) : Host.Outcome State Fault Refusal := .next (lookupLane 0b00100 s)

/-- GCR_00101_INVALID: invalid (R213). -/
def execGcr00101Invalid (s : State) : Host.Outcome State Fault Refusal := .next (lookupLane 0b00101 s)

/-- GCR_00110_INVALID: invalid (R213). -/
def execGcr00110Invalid (s : State) : Host.Outcome State Fault Refusal := .next (lookupLane 0b00110 s)

/-- GCR_00111_INVALID: invalid (R213). -/
def execGcr00111Invalid (s : State) : Host.Outcome State Fault Refusal := .next (lookupLane 0b00111 s)

/-- GCR_01000_INVALID: invalid (R213). -/
def execGcr01000Invalid (s : State) : Host.Outcome State Fault Refusal := .next (lookupLane 0b01000 s)

/-- GCR_01001: nibble 0x9 (R212). -/
def execGcr01001 (s : State) : Host.Outcome State Fault Refusal := .next (lookupLane 0b01001 s)

/-- GCR_01010: nibble 0xA (R212). -/
def execGcr01010 (s : State) : Host.Outcome State Fault Refusal := .next (lookupLane 0b01010 s)

/-- GCR_01011: nibble 0xB (R212). -/
def execGcr01011 (s : State) : Host.Outcome State Fault Refusal := .next (lookupLane 0b01011 s)

/-- GCR_01100_INVALID: invalid (R213). -/
def execGcr01100Invalid (s : State) : Host.Outcome State Fault Refusal := .next (lookupLane 0b01100 s)

/-- GCR_01101: nibble 0xD (R212). -/
def execGcr01101 (s : State) : Host.Outcome State Fault Refusal := .next (lookupLane 0b01101 s)

/-- GCR_01110: nibble 0xE (R212). -/
def execGcr01110 (s : State) : Host.Outcome State Fault Refusal := .next (lookupLane 0b01110 s)

/-- GCR_01111: nibble 0xF (R212). -/
def execGcr01111 (s : State) : Host.Outcome State Fault Refusal := .next (lookupLane 0b01111 s)

/-- GCR_10000_INVALID: invalid (R213). -/
def execGcr10000Invalid (s : State) : Host.Outcome State Fault Refusal := .next (lookupLane 0b10000 s)

/-- GCR_10001_INVALID: invalid (R213). -/
def execGcr10001Invalid (s : State) : Host.Outcome State Fault Refusal := .next (lookupLane 0b10001 s)

/-- GCR_10010: nibble 0x2 (R212). -/
def execGcr10010 (s : State) : Host.Outcome State Fault Refusal := .next (lookupLane 0b10010 s)

/-- GCR_10011: nibble 0x3 (R212). -/
def execGcr10011 (s : State) : Host.Outcome State Fault Refusal := .next (lookupLane 0b10011 s)

/-- GCR_10100_INVALID: invalid (R213). -/
def execGcr10100Invalid (s : State) : Host.Outcome State Fault Refusal := .next (lookupLane 0b10100 s)

/-- GCR_10101: nibble 0x5 (R212). -/
def execGcr10101 (s : State) : Host.Outcome State Fault Refusal := .next (lookupLane 0b10101 s)

/-- GCR_10110: nibble 0x6 (R212). -/
def execGcr10110 (s : State) : Host.Outcome State Fault Refusal := .next (lookupLane 0b10110 s)

/-- GCR_10111: nibble 0x7 (R212). -/
def execGcr10111 (s : State) : Host.Outcome State Fault Refusal := .next (lookupLane 0b10111 s)

/-- GCR_11000_INVALID: invalid (R213). -/
def execGcr11000Invalid (s : State) : Host.Outcome State Fault Refusal := .next (lookupLane 0b11000 s)

/-- GCR_11001: nibble 0x0 (R212). -/
def execGcr11001 (s : State) : Host.Outcome State Fault Refusal := .next (lookupLane 0b11001 s)

/-- GCR_11010: nibble 0x8 (R212). -/
def execGcr11010 (s : State) : Host.Outcome State Fault Refusal := .next (lookupLane 0b11010 s)

/-- GCR_11011: nibble 0x1 (R212). -/
def execGcr11011 (s : State) : Host.Outcome State Fault Refusal := .next (lookupLane 0b11011 s)

/-- GCR_11100_INVALID: invalid (R213). -/
def execGcr11100Invalid (s : State) : Host.Outcome State Fault Refusal := .next (lookupLane 0b11100 s)

/-- GCR_11101: nibble 0x4 (R212). -/
def execGcr11101 (s : State) : Host.Outcome State Fault Refusal := .next (lookupLane 0b11101 s)

/-- GCR_11110: nibble 0xC (R212). -/
def execGcr11110 (s : State) : Host.Outcome State Fault Refusal := .next (lookupLane 0b11110 s)

/-- GCR_11111_INVALID: invalid (R213). -/
def execGcr11111Invalid (s : State) : Host.Outcome State Fault Refusal := .next (lookupLane 0b11111 s)

end Sys2Proof.Machine
end

