-- ==== Sys2Proof/Machine/TelemetryPhase.lean ====
section
/-! DEFINITION. The meanings of the telemetry-phase step operations (45_state_machine.md, section 3). -/

namespace Sys2Proof.Machine

/-- R261: the telemetry wait is abandoned: the event is driven and the command phase begins afresh. -/
def tlmExpire (s : State) : State :=
  restartWindow s.sidx (goTo .awaitCmd (drive (fun o => { o with evTlmExpired := true }) s))

/-- TLM_EXPIRE (R261). -/
def execTlmExpire (s : State) : Host.Outcome State Fault Refusal := .next (runOperation tlmExpire s)

/-- R262: the falling edge at the current sample begins a telemetry frame; `last_evt` is not written. -/
def tlmStart (s : State) : State := goTo .recvTlm (tlmBegin s.sidx s)

/-- TLM_START (R262). -/
def execTlmStart (s : State) : Host.Outcome State Fault Refusal := .next (runOperation tlmStart s)

/-- TLM_WAIT (R266): nothing but the epilogue. -/
def execTlmWait (s : State) : Host.Outcome State Fault Refusal := .next (runOperation id s)

/-- R161, R264: the record of telemetry bit `k = tlm_cnt` with the value and timing-error flag of its classifier. -/
def telemetryBit (v terr : Bool) (s : State) : BitRecord :=
  { v := true, kind := .telemetry, startIdx := s.tlm.t0 + 2 * s.tlm.cnt * s.tim.h, mid := 0,
    endIdx := s.tlm.t0 + (2 * s.tlm.cnt + 2) * s.tim.h, val := v, terr := terr }

/-- R158, R264: the level at the sampling point is classified, emitted and appended, and the cursor moves on. A malformed bit
raises BitTimingError and is still recorded (R302); with one level sample it cannot occur. -/
def tlmSample (s : State) : State :=
  let r := classifyTelemetryBit (!s.ports.din) s.ports.din
  let s1 := emitBit (telemetryBit r.1 r.2 s) s
  let s2 := if r.2 then raiseError .bitTimingError s1 else s1
  tlmAdvance s.sidx (tlmAppend r.1 s2)

/-- TLM_SAMPLE (R264). -/
def execTlmSample (s : State) : Host.Outcome State Fault Refusal := .next (runOperation tlmSample s)

/-- R267: the frame is finalised and the block returns to the command phase whatever the outcome. -/
def tlmFinish (s : State) : State := restartWindow s.sidx (goTo .awaitCmd (tlmFinalize s.sidx s))

/-- TLM_FINISH (R267). -/
def execTlmFinish (s : State) : Host.Outcome State Fault Refusal := .next (runOperation tlmFinish s)

/-- TLM_SKIP (R265): nothing but the epilogue. -/
def execTlmSkip (s : State) : Host.Outcome State Fault Refusal := .next (runOperation id s)

end Sys2Proof.Machine
end

