-- ==== Sys2Proof/Machine/Dispatch.lean ====
section
/-! DEFINITION. The dispatch: one arm per instruction, each one direct call of its meaning. -/

namespace Sys2Proof.Machine

def exec (i : Instr) (s : State) : Host.Outcome State Fault Refusal :=
  match i with
  | .halt => Sys2Proof.Machine.execHalt s
  | .cmdStartEdge => Sys2Proof.Machine.execCmdStartEdge s
  | .cmdEndEdge => Sys2Proof.Machine.execCmdEndEdge s
  | .cmdTimeout => Sys2Proof.Machine.execCmdTimeout s
  | .cmdIdle => Sys2Proof.Machine.execCmdIdle s
  | .tlmExpire => Sys2Proof.Machine.execTlmExpire s
  | .tlmStart => Sys2Proof.Machine.execTlmStart s
  | .tlmWait => Sys2Proof.Machine.execTlmWait s
  | .tlmSample => Sys2Proof.Machine.execTlmSample s
  | .tlmFinish => Sys2Proof.Machine.execTlmFinish s
  | .tlmSkip => Sys2Proof.Machine.execTlmSkip s
  | .gcr00000Invalid => Sys2Proof.Machine.execGcr00000Invalid s
  | .gcr00001Invalid => Sys2Proof.Machine.execGcr00001Invalid s
  | .gcr00010Invalid => Sys2Proof.Machine.execGcr00010Invalid s
  | .gcr00011Invalid => Sys2Proof.Machine.execGcr00011Invalid s
  | .gcr00100Invalid => Sys2Proof.Machine.execGcr00100Invalid s
  | .gcr00101Invalid => Sys2Proof.Machine.execGcr00101Invalid s
  | .gcr00110Invalid => Sys2Proof.Machine.execGcr00110Invalid s
  | .gcr00111Invalid => Sys2Proof.Machine.execGcr00111Invalid s
  | .gcr01000Invalid => Sys2Proof.Machine.execGcr01000Invalid s
  | .gcr01001 => Sys2Proof.Machine.execGcr01001 s
  | .gcr01010 => Sys2Proof.Machine.execGcr01010 s
  | .gcr01011 => Sys2Proof.Machine.execGcr01011 s
  | .gcr01100Invalid => Sys2Proof.Machine.execGcr01100Invalid s
  | .gcr01101 => Sys2Proof.Machine.execGcr01101 s
  | .gcr01110 => Sys2Proof.Machine.execGcr01110 s
  | .gcr01111 => Sys2Proof.Machine.execGcr01111 s
  | .gcr10000Invalid => Sys2Proof.Machine.execGcr10000Invalid s
  | .gcr10001Invalid => Sys2Proof.Machine.execGcr10001Invalid s
  | .gcr10010 => Sys2Proof.Machine.execGcr10010 s
  | .gcr10011 => Sys2Proof.Machine.execGcr10011 s
  | .gcr10100Invalid => Sys2Proof.Machine.execGcr10100Invalid s
  | .gcr10101 => Sys2Proof.Machine.execGcr10101 s
  | .gcr10110 => Sys2Proof.Machine.execGcr10110 s
  | .gcr10111 => Sys2Proof.Machine.execGcr10111 s
  | .gcr11000Invalid => Sys2Proof.Machine.execGcr11000Invalid s
  | .gcr11001 => Sys2Proof.Machine.execGcr11001 s
  | .gcr11010 => Sys2Proof.Machine.execGcr11010 s
  | .gcr11011 => Sys2Proof.Machine.execGcr11011 s
  | .gcr11100Invalid => Sys2Proof.Machine.execGcr11100Invalid s
  | .gcr11101 => Sys2Proof.Machine.execGcr11101 s
  | .gcr11110 => Sys2Proof.Machine.execGcr11110 s
  | .gcr11111Invalid => Sys2Proof.Machine.execGcr11111Invalid s
  | .baud150000 => Sys2Proof.Machine.execBaud150000 s
  | .baud300000 => Sys2Proof.Machine.execBaud300000 s
  | .baud600000 => Sys2Proof.Machine.execBaud600000 s
  | .baud1200000 => Sys2Proof.Machine.execBaud1200000 s
  | .cmdFrame value treq crc data12 => Sys2Proof.Machine.execCmdFrame value treq crc data12 s
  | .tlmRaw start x => Sys2Proof.Machine.execTlmRaw start x s
  | .tlmGcrGroups g0 g1 g2 g3 => Sys2Proof.Machine.execTlmGcrGroups g0 g1 g2 g3 s
  | .tlmDecoded payload crc => Sys2Proof.Machine.execTlmDecoded payload crc s
  | .tlmErpm e m => Sys2Proof.Machine.execTlmErpm e m s
  | .tlmEdt payload => Sys2Proof.Machine.execTlmEdt payload s

end Sys2Proof.Machine
end

