-- ==== Sys2Proof/WellFormed.lean ====
section
/-! DEFINITION. Well-formedness: a word within its format's width, and an instruction whose fields agree. Operands carry their
widths in their types, so the one thing that can be wrong in an instruction is CMD_FRAME's overlapping field. -/

namespace Sys2Proof

/-- A word of a format has no bit at or above the format's width. -/
def wordFits (f : Format) (w : Nat) : Bool := decide (w < 2 ^ f.width)

/-- R100: in CMD_FRAME the field `data12` is `{value, treq}`; no other row's fields overlap (R101, R111: no value is reserved). -/
def Instr.wellFormed : Instr → Bool
  | .cmdFrame value treq _ data12 => decide (data12 = Machine.data12Of value treq)
  | .halt | .cmdStartEdge | .cmdEndEdge | .cmdTimeout | .cmdIdle => true
  | .tlmExpire | .tlmStart | .tlmWait | .tlmSample | .tlmFinish => true
  | .tlmSkip => true
  | .gcr00000Invalid | .gcr00001Invalid | .gcr00010Invalid | .gcr00011Invalid => true
  | .gcr00100Invalid | .gcr00101Invalid | .gcr00110Invalid | .gcr00111Invalid => true
  | .gcr01000Invalid | .gcr01001 | .gcr01010 | .gcr01011 => true
  | .gcr01100Invalid | .gcr01101 | .gcr01110 | .gcr01111 => true
  | .gcr10000Invalid | .gcr10001Invalid | .gcr10010 | .gcr10011 => true
  | .gcr10100Invalid | .gcr10101 | .gcr10110 | .gcr10111 => true
  | .gcr11000Invalid | .gcr11001 | .gcr11010 | .gcr11011 => true
  | .gcr11100Invalid | .gcr11101 | .gcr11110 | .gcr11111Invalid => true
  | .baud150000 | .baud300000 | .baud600000 | .baud1200000 => true
  | .tlmRaw _ _ => true
  | .tlmGcrGroups _ _ _ _ => true
  | .tlmDecoded _ _ => true
  | .tlmErpm _ _ => true
  | .tlmEdt _ => true

end Sys2Proof
end

