-- ==== Sys2Proof/Decode.lean ====
section
/-! DEFINITION. The decoder, total on any word of any format, and the encoder, both from the tables of 30_encoding.md. -/

namespace Sys2Proof

/-- Why a word is not an instruction. Inside a format's width nothing is reserved (R92, R101, R110, R111), so a word can only
be too wide. -/
inductive DecodeRefusal where
  | wordTooWide (f : Format)   -- a bit at or above the format's width is set
deriving DecidableEq, Repr

/-- What the decoder answers. -/
inductive Decoded where
  | instr (i : Instr)
  | refused (r : DecodeRefusal)
deriving DecidableEq, Repr

/-- One row of R91's table: the word under the mask is the row's match value. -/
def selects (w mask pat : SelectWord) : Bool := decide (w &&& mask = pat)

/-- R91: the step operation of a step-select word, the rows tested in the table's order of each phase group. The rows partition
the 256 words, so the last row is what is left when no other matches. -/
def decodeStep (w : SelectWord) : Instr :=
  if selects w 0x80 0x80 then .halt
  else if selects w 0xD0 0x10 then .cmdStartEdge
  else if selects w 0xD8 0x08 then .cmdEndEdge
  else if selects w 0xDA 0x02 then .cmdTimeout
  else if selects w 0xDA 0x00 then .cmdIdle
  else if selects w 0xE2 0x42 then .tlmExpire
  else if selects w 0xE6 0x44 then .tlmStart
  else if selects w 0xE6 0x40 then .tlmWait
  else if selects w 0xE3 0x62 then .tlmSample
  else if selects w 0xE3 0x63 then .tlmFinish
  else .tlmSkip

/-- R108: the rows of the GCR code space, in the order of their codes. -/
def gcrRows : Vector Instr 32 :=
  #v[.gcr00000Invalid, .gcr00001Invalid, .gcr00010Invalid, .gcr00011Invalid,
     .gcr00100Invalid, .gcr00101Invalid, .gcr00110Invalid, .gcr00111Invalid,
     .gcr01000Invalid, .gcr01001, .gcr01010, .gcr01011,
     .gcr01100Invalid, .gcr01101, .gcr01110, .gcr01111,
     .gcr10000Invalid, .gcr10001Invalid, .gcr10010, .gcr10011,
     .gcr10100Invalid, .gcr10101, .gcr10110, .gcr10111,
     .gcr11000Invalid, .gcr11001, .gcr11010, .gcr11011,
     .gcr11100Invalid, .gcr11101, .gcr11110, .gcr11111Invalid]

/-- R108: the row of the GCR code space that a 5-bit code is. -/
def decodeGcr (p : GcrCode) : Instr := gcrRows[p.toNat]

/-- R110: the baud option of a configuration code. -/
def decodeBaud (sel : BitVec 2) : Instr :=
  match sel.toFin with
  | 0 => .baud150000
  | 1 => .baud300000
  | 2 => .baud600000
  | 3 => .baud1200000

/-- R100: the fields of a complete command frame. -/
def decodeCmdWord (w : Word16) : Instr :=
  .cmdFrame (Machine.cmdValue w) (Machine.cmdTreq w) (Machine.cmdCrc w) (Machine.cmdData12 w)

/-- R103: the fields of a raw telemetry frame. -/
def decodeRaw (raw : Raw21) : Instr := .tlmRaw (Machine.rawStart raw) (Machine.rawData raw)

/-- R104: the four groups. -/
def decodeGroups (d : Data20) : Instr :=
  .tlmGcrGroups (Machine.group0 d) (Machine.group1 d) (Machine.group2 d) (Machine.group3 d)

/-- R105: the fields of the decoded telemetry word. -/
def decodeTlmWord (w : Word16) : Instr := .tlmDecoded (Machine.decodedPayload w) (Machine.decodedCrc w)

/-- R106: the fields of an ERPM payload. -/
def decodeErpm (p : Data12) : Instr := .tlmErpm (Machine.erpmExp p) (Machine.erpmMant p)

/-- The instruction of a word that fits its format. -/
def decodeFit : Format → Nat → Instr
  | .step8, w => decodeStep (BitVec.ofNat 8 w)
  | .gcr5, w => decodeGcr (BitVec.ofNat 5 w)
  | .baudSel2, w => decodeBaud (BitVec.ofNat 2 w)
  | .cmd16, w => decodeCmdWord (BitVec.ofNat 16 w)
  | .tlm21, w => decodeRaw (BitVec.ofNat 21 w)
  | .tlm20d, w => decodeGroups (BitVec.ofNat 20 w)
  | .tlm16, w => decodeTlmWord (BitVec.ofNat 16 w)
  | .erpm12, w => decodeErpm (BitVec.ofNat 12 w)
  | .edt12, w => .tlmEdt (BitVec.ofNat 12 w)

/-- The decoder: total on any word of any format, refusing by name a word that is too wide. -/
def decode (f : Format) (w : Nat) : Decoded :=
  if wordFits f w then .instr (decodeFit f w) else .refused (.wordTooWide f)

/-- The format a row of the opcode table belongs to. -/
def Instr.format : Instr → Format
  | .halt | .cmdStartEdge | .cmdEndEdge | .cmdTimeout | .cmdIdle => .step8
  | .tlmExpire | .tlmStart | .tlmWait | .tlmSample | .tlmFinish => .step8
  | .tlmSkip => .step8
  | .gcr00000Invalid | .gcr00001Invalid | .gcr00010Invalid | .gcr00011Invalid => .gcr5
  | .gcr00100Invalid | .gcr00101Invalid | .gcr00110Invalid | .gcr00111Invalid => .gcr5
  | .gcr01000Invalid | .gcr01001 | .gcr01010 | .gcr01011 => .gcr5
  | .gcr01100Invalid | .gcr01101 | .gcr01110 | .gcr01111 => .gcr5
  | .gcr10000Invalid | .gcr10001Invalid | .gcr10010 | .gcr10011 => .gcr5
  | .gcr10100Invalid | .gcr10101 | .gcr10110 | .gcr10111 => .gcr5
  | .gcr11000Invalid | .gcr11001 | .gcr11010 | .gcr11011 => .gcr5
  | .gcr11100Invalid | .gcr11101 | .gcr11110 | .gcr11111Invalid => .gcr5
  | .baud150000 | .baud300000 | .baud600000 | .baud1200000 => .baudSel2
  | .cmdFrame _ _ _ _ => .cmd16
  | .tlmRaw _ _ => .tlm21
  | .tlmGcrGroups _ _ _ _ => .tlm20d
  | .tlmDecoded _ _ => .tlm16
  | .tlmErpm _ _ => .erpm12
  | .tlmEdt _ => .edt12

/-- The word of an instruction: the match value of its row (R91, R108, R110), or its fields assembled MSB first (R100 to R107).
A step operation's don't-care bits are 0, as in its row's match value. -/
def Instr.word : Instr → Nat
  | .halt => 0x80
  | .cmdStartEdge => 0x10
  | .cmdEndEdge => 0x08
  | .cmdTimeout => 0x02
  | .cmdIdle => 0x00
  | .tlmExpire => 0x42
  | .tlmStart => 0x44
  | .tlmWait => 0x40
  | .tlmSample => 0x62
  | .tlmFinish => 0x63
  | .tlmSkip => 0x60
  | .gcr00000Invalid => 0x00
  | .gcr00001Invalid => 0x01
  | .gcr00010Invalid => 0x02
  | .gcr00011Invalid => 0x03
  | .gcr00100Invalid => 0x04
  | .gcr00101Invalid => 0x05
  | .gcr00110Invalid => 0x06
  | .gcr00111Invalid => 0x07
  | .gcr01000Invalid => 0x08
  | .gcr01001 => 0x09
  | .gcr01010 => 0x0A
  | .gcr01011 => 0x0B
  | .gcr01100Invalid => 0x0C
  | .gcr01101 => 0x0D
  | .gcr01110 => 0x0E
  | .gcr01111 => 0x0F
  | .gcr10000Invalid => 0x10
  | .gcr10001Invalid => 0x11
  | .gcr10010 => 0x12
  | .gcr10011 => 0x13
  | .gcr10100Invalid => 0x14
  | .gcr10101 => 0x15
  | .gcr10110 => 0x16
  | .gcr10111 => 0x17
  | .gcr11000Invalid => 0x18
  | .gcr11001 => 0x19
  | .gcr11010 => 0x1A
  | .gcr11011 => 0x1B
  | .gcr11100Invalid => 0x1C
  | .gcr11101 => 0x1D
  | .gcr11110 => 0x1E
  | .gcr11111Invalid => 0x1F
  | .baud150000 => 0
  | .baud300000 => 1
  | .baud600000 => 2
  | .baud1200000 => 3
  | .cmdFrame value treq crc _ => (Machine.cmdWordOf value treq crc).toNat
  | .tlmRaw start x => (Machine.rawOf start x).toNat
  | .tlmGcrGroups g0 g1 g2 g3 => (Machine.groupsOf g0 g1 g2 g3).toNat
  | .tlmDecoded payload crc => (Machine.decodedOf payload crc).toNat
  | .tlmErpm e m => (Machine.erpmOf e m).toNat
  | .tlmEdt payload => payload.toNat

/-- The encoder: an instruction's format and word. -/
def encode (i : Instr) : Format × Nat := (i.format, i.word)

/-- R91: the match values of the step operations' rows, their don't-care bits 0. -/
def stepMatches : List Nat := [0x80, 0x10, 0x08, 0x02, 0x00, 0x42, 0x44, 0x40, 0x62, 0x63, 0x60]

/-- The format a table word of one byte is read in: a step operation's match value as that row, any other 5-bit value as the GCR
code it spells, the rest as step-select words, which are total on their 256 values (R92; log 11). -/
def formatOfByte (w : Nat) : Format :=
  if stepMatches.contains w then .step8 else if wordFits .gcr5 w then .gcr5 else .step8

/-- The format a table word of the given number of bits is read in. The table's rows stand in nine code spaces that share word
values and, in whole bytes, widths, so a choice is made for each width (log 11): two bytes are a command frame, three a raw
telemetry frame; a width that only one row's format has names that format. -/
def formatOfBits (nbits w : Nat) : Option Format :=
  match nbits with
  | 8 => some (formatOfByte w)
  | 5 => some .gcr5
  | 2 => some .baudSel2
  | 16 => some .cmd16
  | 21 => some .tlm21
  | 24 => some .tlm21
  | 20 => some .tlm20d
  | 12 => some .erpm12
  | _ => none

/-- The instruction the decoder reads from a table word of the given number of bits. -/
def decodeTableWord (nbits w : Nat) : Option Instr :=
  match formatOfBits nbits w with
  | none => none
  | some f =>
    match decode f w with
    | .instr i => some i
    | .refused _ => none

end Sys2Proof
end

