-- ==== Sys2Proof/Machine/Fetch.lean ====
section
/-! DEFINITION. How the machine comes by its next instruction: a move of the host is presented at the ports (R20, R82), and the
instruction is decoded from the step-select word at a sample (R90, R240) or from the baud code at a reset (R110, R340). Then the
inverse: how a word is placed so that the next step runs it (log 2, log 22). -/

namespace Sys2Proof.Machine

/-- R20, R82: the host's next move is taken from the list and stands at the ports; a port the move does not drive keeps its
level (log 4). `none` when the host has stopped (R82, R83). -/
def takeMove (s : State) : Option State :=
  match s.inputs with
  | [] => none
  | .reset cfg :: rest => some { s with inputs := rest, ports := { s.ports with rst := true, cfg := cfg } }
  | .sample din :: rest => some { s with inputs := rest, ports := { s.ports with rst := false, din := din } }

/-- R21, R309: a running block is given a sample whose index the spec leaves out (log 5). -/
def streamExhausted (s : State) : Bool := !s.ports.rst && !s.halted && decide (Config.sampleLimit ≤ s.sidx)

/-- R91, R110: the instruction that the presented move selects. -/
def selectedInstr (s : State) : Instr :=
  if s.ports.rst then decodeBaud s.ports.cfg.baudSel else decodeStep (stepSelect s)

/-! ## Placing a word -/

/-- A sample of the given level placed as the host's next move. -/
def placeSample (din : Bool) (s : State) : State := { s with inputs := .sample din :: s.inputs }

/-- A sample with no edge (R150). -/
def placeNoEdge (s : State) : State := placeSample s.line.prevDin s

/-- A sample with a rising edge, or a falling one (R150). -/
def placeEdge (rising : Bool) (s : State) : State :=
  placeSample rising { s with line := { prevDin := !rising, prevValid := true } }

/-- The phase field of a step-select word (R90). -/
def selectPhase (w : SelectWord) : Phase :=
  if w.getLsbD 6 then (if w.getLsbD 5 then .recvTlm else .awaitTlm)
  else (if w.getLsbD 5 then .recvCmd else .awaitCmd)

/-- The timer field of a step-select word (R90) in a command phase. -/
def placeWindow (hit : Bool) (s : State) : State :=
  if hit then { s with sidx := s.lastEvt + s.tim.t }
  else if s.sidx - s.lastEvt = s.tim.t then { s with sidx := s.lastEvt + s.tim.t + 1 } else s

/-- The timer field of a step-select word (R90) in AWAIT_TLM. -/
def placeCeiling (hit : Bool) (s : State) : State :=
  if hit then { s with sidx := s.lc.endIdx + s.cfg.maxTelemWait.toNat + 1 }
  else if s.sidx - s.lc.endIdx > s.cfg.maxTelemWait.toNat then { s with lc := { s.lc with endIdx := s.sidx } } else s

/-- The timer field of a step-select word (R90) in RECV_TLM. -/
def placeCursor (hit : Bool) (s : State) : State :=
  if hit then { s with tlm := { s.tlm with next := s.sidx } }
  else if s.sidx = s.tlm.next then { s with tlm := { s.tlm with next := s.sidx + 1 } } else s

/-- The edge of a step-select word (R90) in a command phase: `se` before `ee`, as R91 tests them. -/
def placeCommandEdge (w : SelectWord) (s : State) : State :=
  if w.getLsbD 4 then placeEdge s.cfg.bidir s
  else if w.getLsbD 3 then placeEdge (!s.cfg.bidir) s
  else placeNoEdge s

/-- The edge of a step-select word (R90) in a telemetry phase: `f`, or a rising edge that `se` or `ee` shows. -/
def placeTelemetryEdge (w : SelectWord) (s : State) : State :=
  if w.getLsbD 2 then placeEdge false s
  else if w.getLsbD 4 || w.getLsbD 3 then placeEdge true s
  else placeNoEdge s

/-- A step-select word: the state and the sample that select its operation. -/
def placeStep (w : SelectWord) (s : State) : State :=
  if w.getLsbD 7 then placeNoEdge { s with halted := true }
  else
    let cnt := if w.getLsbD 0 then Config.tlmFrameBits else if s.tlm.cnt = Config.tlmFrameBits then 0 else s.tlm.cnt
    let s1 : State := { s with halted := false, phase := selectPhase w, tlm := { s.tlm with cnt := cnt } }
    match selectPhase w with
    | .awaitCmd => placeCommandEdge w (placeWindow (w.getLsbD 1) s1)
    | .recvCmd => placeCommandEdge w (placeWindow (w.getLsbD 1) s1)
    | .awaitTlm => placeTelemetryEdge w (placeCeiling (w.getLsbD 1) s1)
    | .recvTlm => placeTelemetryEdge w (placeCursor (w.getLsbD 1) s1)

/-- A configuration code: a reset that latches it, the other inputs as they are latched now. -/
def placeBaud (sel : BitVec 2) (s : State) : State := { s with inputs := .reset { s.cfg with baudSel := sel } :: s.inputs }

/-- A command frame: complete in the accumulator, its inactivity timeout at the next sample. -/
def placeCmdWord (w : Word16) (s : State) : State :=
  placeNoEdge (placeWindow true
    { s with halted := false, phase := .recvCmd, pend := { s.pend with psV := false, pmV := false },
             cmd := { s.cmd with sr := w, cnt := Config.cmdFrameBits } })

/-- A raw telemetry frame: complete in the accumulator, its frame end at the next sample. -/
def placeRaw (raw : Raw21) (s : State) : State :=
  placeNoEdge (placeCursor true
    { s with halted := false, phase := .recvTlm, tlm := { s.tlm with sr := raw, cnt := Config.tlmFrameBits } })

/-- Four GCR groups, on the line (R215). -/
def placeGroups (d : Data20) (s : State) : State := placeRaw (rawOf 0 (diffEncode d)) s

/-- One GCR code, as group 0 of a frame whose other groups are the source's valid code. -/
def placeGcr (p : GcrCode) (s : State) : State := placeGroups (groupsOf p 0b11001 0b11001 0b11001) s

/-- A decoded telemetry word, through its GCR codes (R211). -/
def placeTlmWord (w : Word16) (s : State) : State :=
  placeGroups
    (groupsOf (gcrPattern (w.extractLsb' 12 4)) (gcrPattern (w.extractLsb' 8 4)) (gcrPattern (w.extractLsb' 4 4))
      (gcrPattern (w.extractLsb' 0 4))) s

/-- A telemetry payload with its right checksum, in the interpretation asked for (R219). -/
def placePayload (edt : Bool) (p : Data12) (s : State) : State :=
  let placed := placeTlmWord (decodedOf p (computeChecksum p s.cfg.bidir)) s
  { placed with cfg := { placed.cfg with edtForced := edt } }

/-- A word of a format, placed so that the next step decodes it; a word the decoder refuses changes nothing. -/
def placeWord (f : Format) (w : Nat) (s : State) : State :=
  match decode f w with
  | .refused _ => s
  | .instr _ =>
    match f with
    | .step8 => placeStep (BitVec.ofNat 8 w) s
    | .gcr5 => placeGcr (BitVec.ofNat 5 w) s
    | .baudSel2 => placeBaud (BitVec.ofNat 2 w) s
    | .cmd16 => placeCmdWord (BitVec.ofNat 16 w) s
    | .tlm21 => placeRaw (BitVec.ofNat 21 w) s
    | .tlm20d => placeGroups (BitVec.ofNat 20 w) s
    | .tlm16 => placeTlmWord (BitVec.ofNat 16 w) s
    | .erpm12 => placePayload false (BitVec.ofNat 12 w) s
    | .edt12 => placePayload true (BitVec.ofNat 12 w) s

end Sys2Proof.Machine
end

