-- ==== Sys2Proof/Machine/Step.lean ====
section
/-! DEFINITION. One step of the machine: one move of the host (R8, R82, R240). -/

namespace Sys2Proof.Machine

/-- One step: the host's next move is presented and the instruction it selects is performed. A host that has stopped leaves the
state as it is (R82, R83; log 1), and a sample beyond the indices of the spec is refused (R309; log 5). -/
def step (s : State) : Host.Outcome State Fault Refusal :=
  match takeMove s with
  | none => .next s
  | some s1 => if streamExhausted s1 then .refused .streamTooLong else exec (selectedInstr s1) s1

/-- `s` with the table word placed so that the next step decodes and runs it (log 2, log 22): a step-select word through the
registers and the sample that form it, a baud code in a reset, a code or a frame in the accumulator that the next step finalises. -/
def State.withFetchWord (s : State) (nbits w : Nat) : State :=
  match formatOfBits nbits w with
  | none => s
  | some f => placeWord f w s

end Sys2Proof.Machine
end

