-- ==== Sys2Proof/Safety.lean ====
section
/-! DEFINITION. What counts as a safe state and a safe run, in the terms the statements use: the fault R309 names, the invariants
of R35, and the bounds of R26. -/

namespace Sys2Proof.Safety

open Sys2Proof.Machine

/-- R309: the halted state is what the spec calls a fault: quiescent, never the normal end of a run. -/
def faultOf (s : State) : Option Fault := if s.halted then some .configurationError else none

/-- R28: the two phases of the command-phase algorithm. -/
def commandPhase (p : Phase) : Bool :=
  match p with
  | .awaitCmd => true
  | .recvCmd => true
  | .awaitTlm => false
  | .recvTlm => false

/-- The invariants of R35, with what they rest on: the derived registers are those of the latched configuration (R25), `halted`
says whether that configuration is erroneous and a halted block stays as reset left it (R27, R242), the pending bit's indices
lie in the past, the line is at the level the last command edge left it at, and the accumulated bits end in the past. R35's
clause `last_evt < sidx` does not hold at the reset state itself, where both are 0: the clause here says so (log 15). -/
structure Inv (s : State) : Prop where
  timing : s.tim = deriveTiming s.cfg.sampleRate s.cfg.baudSel
  haltedIff : s.halted = cfgError s.cfg.sampleRate s.cfg.bidir s.tim
  haltedAtReset : s.halted = true → s.phase = .awaitCmd ∧ s.sidx = 0
  emptyOutsideFrame : s.phase ≠ .recvCmd → s.cmd.cnt = 0
  startOnlyInFrame : s.pend.psV = true → s.phase = .recvCmd
  midAfterStart : s.pend.pmV = true → s.pend.psV = true ∧ s.pend.ps < s.pend.pm ∧ s.pend.pm ≤ s.lastEvt
  startInWindow : s.pend.psV = true → s.pend.ps ≤ s.lastEvt
  lineLevel : s.pend.psV = true →
    s.line.prevValid = true ∧ s.line.prevDin = (if s.pend.pmV then !s.cfg.bidir else s.cfg.bidir)
  bitsEnd : s.cmd.cnt ≠ 0 → s.cmd.lastEnd ≤ s.lastEvt
  cmdCount : s.cmd.cnt ≤ Config.cmdCntMax
  window : commandPhase s.phase = true →
    s.lastEvt < s.sidx ∨ (s.lastEvt = 0 ∧ s.sidx = 0 ∧ s.phase = .awaitCmd ∧ s.line.prevValid = false)
  awaitTelemetry : s.phase = .awaitTlm → s.cfg.bidir = true ∧ s.lc.v = true ∧ s.lc.endIdx < s.sidx
  recvTelemetry : s.phase = .recvTlm →
    s.cfg.bidir = true ∧ s.tlm.cnt ≤ Config.tlmFrameBits ∧ s.sidx ≤ s.tlm.next ∧
    (s.tlm.cnt < Config.tlmFrameBits → s.tlm.next = s.tlm.t0 + (2 * s.tlm.cnt + 1) * s.tim.h) ∧
    (s.tlm.cnt = Config.tlmFrameBits → s.tlm.next = s.tlm.t0 + 42 * s.tim.h)

/-- R26: an index no greater than this, from a state at sample `sidx`, fits in 64 bits while `sidx` is at most the limit. -/
def indexBound (s : State) : Nat := s.sidx + (2 ^ 17 - 1)

/-- R26: every index the block holds or drives is at most the largest timing count beyond the current sample, and the current
sample is at most the limit; so every one of them fits in its 64 bits. -/
structure IndexBounds (s : State) : Prop where
  sample : s.sidx ≤ Config.sampleLimit
  start : s.pend.ps ≤ s.sidx
  mid : s.pend.pm ≤ s.sidx
  event : s.lastEvt ≤ s.sidx
  frameStart : s.cmd.startIdx ≤ s.sidx
  frameEnd : s.cmd.lastEnd ≤ indexBound s
  lastFrameEnd : s.lc.endIdx ≤ indexBound s
  telemetryStart : s.tlm.t0 ≤ s.sidx
  cursor : s.tlm.next ≤ indexBound s
  bitRecord : s.out.bit.startIdx ≤ s.sidx ∧ s.out.bit.mid ≤ s.sidx ∧ s.out.bit.endIdx ≤ indexBound s
  cmdRecord : s.out.cmd.startIdx ≤ s.sidx ∧ s.out.cmd.endIdx ≤ indexBound s
  tlmRecord : s.out.tlm.startIdx ≤ s.sidx ∧ s.out.tlm.endIdx ≤ s.sidx

end Sys2Proof.Safety
end

