-- ==== Sys2Proof/Certificates/Slice0/Obligations.lean ====
section
/-! DEFINITION. The statements for the provers, from the numbered rules of spec/. -/

open Sys2Proof Sys2Proof.Machine Sys2Proof.Safety

/-! ## Reference forms the statements use, each written from a rule's own pseudocode -/

/-- R216 as one function, with R214, R215 and R217 to R221: the telemetry record of a raw frame, written from the rule's
pseudocode and not from the model's stages. -/
def Sys2Proof.Spec.telemetryRecord (raw : Raw21) (bidir edt : Bool) (t0 i : Nat) : TlmRecord :=
  let x : Data20 := raw.extractLsb' 0 20
  let d := x ^^^ (x >>> 1)
  let g0 : GcrCode := d.extractLsb' 15 5
  let g1 : GcrCode := d.extractLsb' 10 5
  let g2 : GcrCode := d.extractLsb' 5 5
  let g3 : GcrCode := d.extractLsb' 0 5
  match gcrLookup g0, gcrLookup g1, gcrLookup g2, gcrLookup g3 with
  | some n0, some n1, some n2, some n3 =>
    let decoded : Word16 := n0 ++ n1 ++ n2 ++ n3
    let payload : Data12 := decoded.extractLsb' 4 12
    let crcRx : Nibble := decoded.extractLsb' 0 4
    let crcCalc := computeChecksum payload bidir
    let e : BitVec 3 := payload.extractLsb' 9 3
    let m : BitVec 9 := payload.extractLsb' 0 9
    { v := true, raw := raw, gcrOk := true, badGroup := 0, badPattern := 0, decoded := decoded, payload := payload,
      crcRx := crcRx, crcCalc := crcCalc, crcOk := decide (crcRx = crcCalc),
      kind := if edt then .edtNotImplemented else .erpm,
      exp := if edt then 0 else e,
      mant := if edt then 0 else m,
      periodUs := if edt then 0 else m.setWidth 16 <<< e.toNat,
      startIdx := t0, endIdx := i }
  | r0, r1, r2, _ =>
    { TlmRecord.invalid with
      v := true, raw := raw
      badGroup := if r0 = none then 0 else if r1 = none then 1 else if r2 = none then 2 else 3
      badPattern := if r0 = none then g0 else if r1 = none then g1 else if r2 = none then g2 else g3
      startIdx := t0, endIdx := i }

/-- R185, last lines: the error a telemetry record goes with. -/
def Sys2Proof.Spec.telemetryError (r : TlmRecord) : ErrCode :=
  if r.gcrOk = false then .gcrDecodeError else if r.crcOk = false then .checksumMismatch else .none

/-- R91's table: mask, match and operation of each row. -/
def Sys2Proof.Spec.selectTable : List (SelectWord × SelectWord × Instr) :=
  [(0x80, 0x80, .halt), (0xD0, 0x10, .cmdStartEdge), (0xD8, 0x08, .cmdEndEdge), (0xDA, 0x02, .cmdTimeout),
   (0xDA, 0x00, .cmdIdle), (0xE2, 0x42, .tlmExpire), (0xE6, 0x44, .tlmStart), (0xE6, 0x40, .tlmWait),
   (0xE3, 0x62, .tlmSample), (0xE3, 0x63, .tlmFinish), (0xE2, 0x60, .tlmSkip)]

/-- The encoding of a step operation: the step-select words it is selected by are those of its match value under its mask. -/
def Sys2Proof.Spec.SelectedBy (i : Instr) (pat mask : SelectWord) : Prop :=
  ∀ w : SelectWord, decodeStep w = i ↔ w &&& mask = pat

/-- The ten step operations that have an epilogue (R243). -/
def Sys2Proof.Spec.sampleOperations : List Instr :=
  [.cmdStartEdge, .cmdEndEdge, .cmdTimeout, .cmdIdle, .tlmExpire, .tlmStart, .tlmWait, .tlmSample, .tlmFinish, .tlmSkip]

/-- R268's table: the phases each step operation goes from and to. -/
def Sys2Proof.Spec.transitions : List (Instr × Phase × Phase) :=
  [(.cmdStartEdge, .awaitCmd, .recvCmd), (.cmdStartEdge, .recvCmd, .recvCmd),
   (.cmdEndEdge, .awaitCmd, .awaitCmd), (.cmdEndEdge, .recvCmd, .recvCmd),
   (.cmdIdle, .awaitCmd, .awaitCmd), (.cmdIdle, .recvCmd, .recvCmd),
   (.cmdTimeout, .awaitCmd, .awaitCmd), (.cmdTimeout, .recvCmd, .awaitCmd),
   (.cmdTimeout, .awaitCmd, .awaitTlm), (.cmdTimeout, .recvCmd, .awaitTlm),
   (.tlmExpire, .awaitTlm, .awaitCmd), (.tlmStart, .awaitTlm, .recvTlm), (.tlmWait, .awaitTlm, .awaitTlm),
   (.tlmSample, .recvTlm, .recvTlm), (.tlmSkip, .recvTlm, .recvTlm), (.tlmFinish, .recvTlm, .awaitCmd)]

/-- The valid codes of R210's table with their nibbles, as the opcode table lists them. -/
def Sys2Proof.Spec.validCodes : List (Instr × GcrCode × Nibble) :=
  [(.gcr11001, 0x19, 0x0), (.gcr11011, 0x1B, 0x1), (.gcr10010, 0x12, 0x2), (.gcr10011, 0x13, 0x3),
   (.gcr11101, 0x1D, 0x4), (.gcr10101, 0x15, 0x5), (.gcr10110, 0x16, 0x6), (.gcr10111, 0x17, 0x7),
   (.gcr11010, 0x1A, 0x8), (.gcr01001, 0x09, 0x9), (.gcr01010, 0x0A, 0xA), (.gcr01011, 0x0B, 0xB),
   (.gcr11110, 0x1E, 0xC), (.gcr01101, 0x0D, 0xD), (.gcr01110, 0x0E, 0xE), (.gcr01111, 0x0F, 0xF)]

/-- The invalid codes of R210, as the opcode table lists them. -/
def Sys2Proof.Spec.invalidCodes : List (Instr × GcrCode) :=
  [(.gcr00000Invalid, 0x00), (.gcr00001Invalid, 0x01), (.gcr00010Invalid, 0x02), (.gcr00011Invalid, 0x03),
   (.gcr00100Invalid, 0x04), (.gcr00101Invalid, 0x05), (.gcr00110Invalid, 0x06), (.gcr00111Invalid, 0x07),
   (.gcr01000Invalid, 0x08), (.gcr01100Invalid, 0x0C), (.gcr10000Invalid, 0x10), (.gcr10001Invalid, 0x11),
   (.gcr10100Invalid, 0x14), (.gcr11000Invalid, 0x18), (.gcr11100Invalid, 0x1C), (.gcr11111Invalid, 0x1F)]

/-- Instructions run one after another, stopping at the first that gives no next state. -/
def Sys2Proof.Spec.execAll : List Instr → State → Host.Outcome State Fault Refusal
  | [], s => .next s
  | i :: rest, s =>
    match exec i s with
    | .next t => Sys2Proof.Spec.execAll rest t
    | .fault f => .fault f
    | .refused r => .refused r

/-- A run of samples of the given levels. -/
def Sys2Proof.Spec.samples (levels : List Bool) : List HostMove := levels.map HostMove.sample

/-- The state with a sample presented at the ports (R20): what a sample step's operation acts on. -/
def Sys2Proof.Spec.atSample (din : Bool) (rest : List HostMove) (s : State) : State :=
  { s with inputs := rest, ports := { s.ports with rst := false, din := din } }

/-! ## The step -/

/-- A step runs the decoded instruction: at a sample, the operation of the step-select word that the presented state forms; at
a reset, the reset of the configuration code at the port; each with exec, the step adding the presentation alone. (The list of
moves is log 1, the ports a move leaves as they are log 4, the index limit log 5. The reset half rests on the model's choice
of log 9: spec/ makes a reset latch `baud_sel`, and the model makes the baud option's row the instruction that does it.) -/
def Obligations.StepRunsTheDecodedInstruction : Prop :=
  ∀ s : State,
    (∀ din rest, s.inputs = .sample din :: rest → (s.halted = true ∨ s.sidx < 2 ^ 64 - 2 ^ 17) →
      step s = exec (decodeStep (stepSelect (Spec.atSample din rest s))) (Spec.atSample din rest s)) ∧
    (∀ cfg rest, s.inputs = .reset cfg :: rest →
      step s = exec (decodeBaud cfg.baudSel)
        { s with inputs := rest, ports := { s.ports with rst := true, cfg := cfg } })

/-- R82: when the host has stopped, the block does nothing and its state is frozen as it is. (That the end of the list of
moves is the host having stopped is log 1.) -/
def Obligations.StoppedHostFreezesTheState : Prop :=
  ∀ s : State, s.inputs = [] → step s = .next s

/-- A step never faults, and it refuses exactly a sample at or beyond index 2^64 - 2^17 presented to a running block (R21,
R309; that the refusal begins at this index is the model's choice, log 5). That no step faults is the model's inference of log
8: R309 calls ConfigurationError a fault, and the model makes HALT an ordinary step and names the fault of a halted state in
Safety.faultOf. -/
def Obligations.StepRefusesExactlyTooLongStreams : Prop :=
  ∀ s : State,
    (∀ f, step s ≠ .fault f) ∧
    (∀ r, step s = .refused r ↔
      (r = .streamTooLong ∧ s.halted = false ∧ 2 ^ 64 - 2 ^ 17 ≤ s.sidx ∧ ∃ din rest, s.inputs = .sample din :: rest))

/-! ## Selection -/

/-- R90: every bit of the step-select word. -/
def Obligations.SelectWordFields : Prop :=
  ∀ s : State,
    (stepSelect s).getLsbD 7 = s.halted ∧
    (stepSelect s).extractLsb' 5 2 =
      (match s.phase with | .awaitCmd => 0b00#2 | .recvCmd => 0b01#2 | .awaitTlm => 0b10#2 | .recvTlm => 0b11#2) ∧
    (stepSelect s).getLsbD 4 = startEdgeNow s ∧
    (stepSelect s).getLsbD 3 = endEdgeNow s ∧
    (stepSelect s).getLsbD 2 = fallNow s ∧
    (stepSelect s).getLsbD 1 =
      (match s.phase with
       | .awaitCmd => decide (s.sidx - s.lastEvt = s.tim.t)
       | .recvCmd => decide (s.sidx - s.lastEvt = s.tim.t)
       | .awaitTlm => decide (s.sidx - s.lc.endIdx > s.cfg.maxTelemWait.toNat)
       | .recvTlm => decide (s.sidx = s.tlm.next)) ∧
    (stepSelect s).getLsbD 0 = decide (s.tlm.cnt = 21)

/-- R91: of the table's rows, exactly one matches a step-select word, and the decoder reads that row's operation. -/
def Obligations.SelectTablePartitionsTheWords : Prop :=
  ∀ w : SelectWord,
    (Spec.selectTable.filter fun row => w &&& row.1 == row.2.1).map (fun row => row.2.2) = [decodeStep w]

/-- R150, R152: an edge is a change from the previous sample, rising or falling by the new level; sample 0 has none; an edge is
exactly one of a start edge and an end edge, by the polarity that `bidir` fixes. -/
def Obligations.EdgesFollowThePolarity : Prop :=
  ∀ s : State,
    (edgeNow s = true ↔ s.line.prevValid = true ∧ s.ports.din ≠ s.line.prevDin) ∧
    (riseNow s = true ↔ edgeNow s = true ∧ s.ports.din = true) ∧
    (fallNow s = true ↔ edgeNow s = true ∧ s.ports.din = false) ∧
    (s.cfg.bidir = true → startEdgeNow s = riseNow s ∧ endEdgeNow s = fallNow s) ∧
    (s.cfg.bidir = false → startEdgeNow s = fallNow s ∧ endEdgeNow s = riseNow s) ∧
    (edgeNow s = (startEdgeNow s != endEdgeNow s)) ∧
    (s.line.prevValid = false → edgeNow s = false)

/-- R91, R270: the operation a sample selects, condition by condition in order of priority: halted first; in a command phase the
start edge, the end edge, then the timeout; in AWAIT_TLM the ceiling before the falling edge; in RECV_TLM no edge at all. -/
def Obligations.SimultaneousConditionsHaveOnePriority : Prop :=
  ∀ s : State,
    (s.halted = true → decodeStep (stepSelect s) = .halt) ∧
    (s.halted = false → (s.phase = .awaitCmd ∨ s.phase = .recvCmd) →
      decodeStep (stepSelect s) =
        if startEdgeNow s then .cmdStartEdge else if endEdgeNow s then .cmdEndEdge
        else if s.sidx - s.lastEvt = s.tim.t then .cmdTimeout else .cmdIdle) ∧
    (s.halted = false → s.phase = .awaitTlm →
      decodeStep (stepSelect s) =
        if s.sidx - s.lc.endIdx > s.cfg.maxTelemWait.toNat then .tlmExpire
        else if fallNow s then .tlmStart else .tlmWait) ∧
    (s.halted = false → s.phase = .recvTlm →
      decodeStep (stepSelect s) =
        if s.sidx = s.tlm.next then (if s.tlm.cnt = 21 then .tlmFinish else .tlmSample) else .tlmSkip)

/-! ## HALT and the command phase -/

/-- R242: HALT changes no register; it drives `err_code = 1` and the status, and no record. -/
def Obligations.HaltChangesNoRegister : Prop :=
  Spec.SelectedBy .halt 0x80 0x80 ∧ ∀ s : State,
    exec .halt s = .next { s with
      out := { bit := .invalid, cmd := .invalid, tlm := .invalid, evTlmExpired := false,
               errCode := .configurationError, stPhase := s.phase, stHalted := s.halted, wires := .idle } }

/-- R243: every step operation but HALT ends with the epilogue, and none touches the configuration, the derived counts or
`halted`. -/
def Obligations.EveryOperationEndsWithTheEpilogue : Prop :=
  ∀ i ∈ Spec.sampleOperations, ∀ s : State, ∃ t, exec i s = .next t ∧
    t.line = { prevDin := s.ports.din, prevValid := true } ∧ t.sidx = s.sidx + 1 ∧
    t.inputs = s.inputs ∧ t.ports = s.ports ∧ t.cfg = s.cfg ∧ t.tim = s.tim ∧ t.halted = s.halted

/-- R248, R265, R266: CMD_IDLE, TLM_SKIP and TLM_WAIT change nothing but the epilogue's registers and drive no record. -/
def Obligations.WaitingOperationsOnlyPassTheSample : Prop :=
  ∀ row ∈ [(Instr.cmdIdle, 0x00, 0xDA), (Instr.tlmSkip, 0x60, 0xE2), (Instr.tlmWait, 0x40, 0xE6)],
    Spec.SelectedBy row.1 row.2.1 row.2.2 ∧ ∀ s : State, exec row.1 s = .next { s with
      line := { prevDin := s.ports.din, prevValid := true }, sidx := s.sidx + 1, out := .quiet s.phase s.halted }

/-- R244, R156, R170, R174: CMD_START_EDGE: the whole state after it. -/
def Obligations.StartEdgeFlushesAndBeginsABit : Prop :=
  Spec.SelectedBy .cmdStartEdge 0x10 0xD0 ∧ ∀ s : State,
    let i := s.sidx
    let flush := s.pend.psV && s.pend.pmV
    let v := decide (2 * (s.pend.pm - s.pend.ps) > i - s.pend.ps)
    exec .cmdStartEdge s = .next { s with
      cmd := { sr := if flush then (s.cmd.sr <<< 1) ||| (BitVec.ofBool v).setWidth 16 else s.cmd.sr
               cnt := if flush then min (s.cmd.cnt + 1) 17 else s.cmd.cnt
               startIdx := if s.phase = .awaitCmd then i else s.cmd.startIdx
               lastEnd := if flush then i else s.cmd.lastEnd }
      pend := { psV := true, ps := i, pmV := false, pm := s.pend.pm }
      lastEvt := i
      phase := .recvCmd
      line := { prevDin := s.ports.din, prevValid := true }
      sidx := i + 1
      out := { Outputs.quiet .recvCmd s.halted with
        bit := if flush then
            { v := true, kind := .command, startIdx := s.pend.ps, mid := s.pend.pm, endIdx := i, val := v, terr := false }
          else .invalid } }

/-- R246: CMD_END_EDGE: it sets the mid of a pending start that has none, restarts the window, and drives no record. -/
def Obligations.EndEdgeCompletesTheDuty : Prop :=
  Spec.SelectedBy .cmdEndEdge 0x08 0xD8 ∧ ∀ s : State,
    exec .cmdEndEdge s = .next { s with
      pend := if s.pend.psV = true ∧ s.pend.pmV = false then { s.pend with pm := s.sidx, pmV := true } else s.pend
      lastEvt := s.sidx
      line := { prevDin := s.ports.din, prevValid := true }
      sidx := s.sidx + 1
      out := .quiet s.phase s.halted }

/-- R250, R172, R176, R178, R253: CMD_TIMEOUT: the flush with the boundary `ps + BP`, the record of a frame of at least 16 bits
decoded from its last 16, the error of a bad checksum, the phase it leads to, and all that stays. -/
def Obligations.TimeoutFlushesFinalisesAndClears : Prop :=
  Spec.SelectedBy .cmdTimeout 0x02 0xDA ∧ ∀ s : State,
    let i := s.sidx
    let flush := s.pend.psV && s.pend.pmV
    let e := s.pend.ps + s.tim.bp
    let v := decide (2 * (s.pend.pm - s.pend.ps) > e - s.pend.ps)
    let w : Word16 := if flush then (s.cmd.sr <<< 1) ||| (BitVec.ofBool v).setWidth 16 else s.cmd.sr
    let n := if flush then min (s.cmd.cnt + 1) 17 else s.cmd.cnt
    let lastEnd := if flush then e else s.cmd.lastEnd
    let rx : Nibble := w.extractLsb' 0 4
    let crc4 := computeChecksum (w.extractLsb' 4 12) s.cfg.bidir
    let complete := decide (16 ≤ n)
    let ok := decide (rx = crc4)
    let next := if complete && ok && s.cfg.bidir then Phase.awaitTlm else Phase.awaitCmd
    exec .cmdTimeout s = .next { s with
      cmd := { sr := 0, cnt := 0, startIdx := s.cmd.startIdx, lastEnd := lastEnd }
      pend := { s.pend with psV := false, pmV := false }
      lc := if complete && ok then { v := true, endIdx := lastEnd } else s.lc
      phase := next
      lastEvt := i
      line := { prevDin := s.ports.din, prevValid := true }
      sidx := i + 1
      out := { Outputs.quiet next s.halted with
        bit := if flush then
            { v := true, kind := .command, startIdx := s.pend.ps, mid := s.pend.pm, endIdx := e, val := v, terr := false }
          else .invalid
        cmd := if complete then
            { v := true, value := w.extractLsb' 5 11, treq := w.extractLsb' 4 1, crcRx := rx, crcCalc := crc4, crcOk := ok,
              overlong := decide (16 < n), word := w, startIdx := s.cmd.startIdx, endIdx := lastEnd }
          else .invalid
        errCode := if complete && !ok then .checksumMismatch else .none } }

/-! ## The telemetry phase -/

/-- R261: TLM_EXPIRE: the event, the phase and the window; no record and no error. -/
def Obligations.ExpiryReturnsToTheCommandPhase : Prop :=
  Spec.SelectedBy .tlmExpire 0x42 0xE2 ∧ ∀ s : State,
    exec .tlmExpire s = .next { s with
      phase := .awaitCmd, lastEvt := s.sidx, line := { prevDin := s.ports.din, prevValid := true }, sidx := s.sidx + 1
      out := { Outputs.quiet .awaitCmd s.halted with evTlmExpired := true } }

/-- R262, R180: TLM_START: a new accumulator, its first sampling point half a bit later; `last_evt` is not written. -/
def Obligations.TelemetryStartBeginsAFrame : Prop :=
  Spec.SelectedBy .tlmStart 0x44 0xE6 ∧ ∀ s : State,
    exec .tlmStart s = .next { s with
      tlm := { t0 := s.sidx, sr := 0, cnt := 0, next := s.sidx + s.tim.h }
      phase := .recvTlm, line := { prevDin := s.ports.din, prevValid := true }, sidx := s.sidx + 1
      out := .quiet .recvTlm s.halted }

/-- R264, R158, R160, R161, R181: TLM_SAMPLE: the level is the bit's value, with no timing error; the bit record, the
accumulator and the next sampling point, half a bit away after the last bit. -/
def Obligations.TelemetrySampleAppendsTheLevel : Prop :=
  Spec.SelectedBy .tlmSample 0x62 0xE3 ∧ ∀ s : State,
    exec .tlmSample s = .next { s with
      tlm := { t0 := s.tlm.t0, sr := (s.tlm.sr <<< 1) ||| (BitVec.ofBool s.ports.din).setWidth 21, cnt := s.tlm.cnt + 1
               next := if s.tlm.cnt + 1 < 21 then s.sidx + 2 * s.tim.h else s.sidx + s.tim.h }
      line := { prevDin := s.ports.din, prevValid := true }, sidx := s.sidx + 1
      out := { Outputs.quiet s.phase s.halted with
        bit := { v := true, kind := .telemetry, startIdx := s.tlm.t0 + 2 * s.tlm.cnt * s.tim.h, mid := 0
                 endIdx := s.tlm.t0 + (2 * s.tlm.cnt + 2) * s.tim.h, val := s.ports.din, terr := false } } }

/-- R267, R185, R216, R304, R303: TLM_FINISH: the record and the error are those of the one-piece reference decode, the phase
returns to AWAIT_CMD whatever the outcome, and the accumulator is left as it is. -/
def Obligations.TelemetryFinishMatchesTheReferenceDecode : Prop :=
  Spec.SelectedBy .tlmFinish 0x63 0xE3 ∧ ∀ s : State, ∃ t, exec .tlmFinish s = .next t ∧
    t.out.tlm = Spec.telemetryRecord s.tlm.sr s.cfg.bidir s.cfg.edtForced s.tlm.t0 s.sidx ∧
    t.out.errCode = Spec.telemetryError t.out.tlm ∧
    t = { s with phase := .awaitCmd, lastEvt := s.sidx, line := { prevDin := s.ports.din, prevValid := true },
                 sidx := s.sidx + 1,
                 out := { Outputs.quiet .awaitCmd s.halted with
                   tlm := t.out.tlm, errCode := t.out.errCode, wires := t.out.wires } }

/-- R216: TLM_FINISH is its stages in order: with the outputs cleared and the frame's span driven, TLM_RAW of the accumulator,
TLM_GCR_GROUPS of its differential decode, and, where every group decoded, TLM_DECODED and TLM_ERPM or TLM_EDT; then the
phase, the window, the epilogue and the status. (The format rows as instructions of their own are log 9; that each stage
raises the error it detects is log 20.) -/
def Obligations.TelemetryFinishRunsTheFormatInstructions : Prop :=
  ∀ s : State,
    let x : Data20 := s.tlm.sr.extractLsb' 0 20
    let d := x ^^^ (x >>> 1)
    let header : State := { s with out := { Outputs.quiet s.phase s.halted with
      tlm := { TlmRecord.invalid with v := true, startIdx := s.tlm.t0, endIdx := s.sidx } } }
    ∃ mid last, Spec.execAll [decodeRaw s.tlm.sr, decodeGroups d] header = .next mid ∧
      Spec.execAll
        (if mid.out.tlm.gcrOk then
          [decodeTlmWord mid.out.tlm.decoded,
           if s.cfg.edtForced then .tlmEdt (decodedPayload mid.out.tlm.decoded)
           else decodeErpm (decodedPayload mid.out.tlm.decoded)]
         else []) mid = .next last ∧
      exec .tlmFinish s = .next { last with
        phase := .awaitCmd, lastEvt := s.sidx, line := { prevDin := s.ports.din, prevValid := true }, sidx := s.sidx + 1
        out := { last.out with stPhase := .awaitCmd, stHalted := s.halted } }

/-- R211, R214 to R216, R73: every 16-bit word sent as four GCR codes over the differential line code is read back by
TLM_FINISH, whatever the start-framing bit, with no error but a checksum that does not match. (Fifteen table entries are log
12.) -/
def Obligations.TelemetryWordSurvivesTheLine : Prop :=
  ∀ (s : State) (w : Word16) (start : BitVec 1),
    s.tlm.sr = rawOf start (diffEncode (groupsOf (gcrPattern (w.extractLsb' 12 4)) (gcrPattern (w.extractLsb' 8 4))
      (gcrPattern (w.extractLsb' 4 4)) (gcrPattern (w.extractLsb' 0 4)))) →
    ∃ t, exec .tlmFinish s = .next t ∧ t.out.tlm.gcrOk = true ∧ t.out.tlm.decoded = w ∧
      t.out.tlm.payload = w.extractLsb' 4 12 ∧ t.out.tlm.crcRx = w.extractLsb' 0 4 ∧
      t.out.errCode =
        (if w.extractLsb' 0 4 = computeChecksum (w.extractLsb' 4 12) s.cfg.bidir then .none else .checksumMismatch)

/-- R215: the start-framing bit `raw[20]` has no effect on anything that TLM_FINISH leaves or drives except `tlm_raw`, and on
`tlm_sr` itself, which it keeps. -/
def Obligations.StartFramingBitIsDiscarded : Prop :=
  ∀ (s : State) (x : Data20) (b c : BitVec 1),
    ∃ t, exec .tlmFinish { s with tlm := { s.tlm with sr := rawOf b x } } = .next t ∧
      exec .tlmFinish { s with tlm := { s.tlm with sr := rawOf c x } } =
        .next { t with tlm := { t.tlm with sr := rawOf c x },
                       out := { t.out with tlm := { t.out.tlm with raw := rawOf c x } } }

/-- R213, R218, R304: when group `j` is the first invalid one, TLM_FINISH reports its number and its pattern, decodes nothing,
computes no checksum and raises GcrDecodeError, never ChecksumMismatch. -/
def Obligations.FirstInvalidGroupIsReported : Prop :=
  ∀ (s : State) (j : Fin 4),
    let x : Data20 := s.tlm.sr.extractLsb' 0 20
    let d := x ^^^ (x >>> 1)
    let g : Fin 4 → GcrCode := fun k => d.extractLsb' (15 - 5 * k.val) 5
    gcrLookup (g j) = none → (∀ k, k < j → gcrLookup (g k) ≠ none) →
    ∃ t, exec .tlmFinish s = .next t ∧
      t.out.tlm = { TlmRecord.invalid with
        v := true, raw := s.tlm.sr, badGroup := BitVec.ofNat 2 j.val, badPattern := g j,
        startIdx := s.tlm.t0, endIdx := s.sidx } ∧
      t.out.errCode = .gcrDecodeError

/-! ## Codes and formats -/

/-- R110, R130 to R134, R340, R46: each baud option is the reset that latches its code: the whole state after it. (That each
baud option is the reset that latches its code is the model's choice, log 9; so are the ports it keeps, log 4.) -/
def Obligations.ResetLatchesTheConfiguration : Prop :=
  ∀ row ∈ [(Instr.baud150000, 0#2, 150000), (Instr.baud300000, 1#2, 300000), (Instr.baud600000, 2#2, 600000),
           (Instr.baud1200000, 3#2, 1200000)],
  ∀ s : State,
    let c := { s.ports.cfg with baudSel := row.2.1 }
    let rate := c.sampleRate.toNat
    let bp := rate / row.2.2
    let h := 4 * rate / (10 * row.2.2)
    let bad := decide (rate = 0) || decide (bp = 0) || (c.bidir && decide (h = 0))
    decodeBaud row.2.1 = row.1 ∧ ∃ t, exec row.1 s = .next t ∧
      t.inputs = s.inputs ∧ t.ports = { s.ports with cfg := c } ∧ t.cfg = c ∧
      t.tim = { baud := row.2.2, bp := bp, t := 3 * bp, h := h } ∧ t.halted = bad ∧
      t.sidx = 0 ∧ t.phase = .awaitCmd ∧ t.line = { prevDin := false, prevValid := false } ∧
      t.pend = { psV := false, ps := 0, pmV := false, pm := 0 } ∧ t.lastEvt = 0 ∧
      t.cmd = { sr := 0, cnt := 0, startIdx := 0, lastEnd := 0 } ∧ t.lc = { v := false, endIdx := 0 } ∧
      t.tlm = { t0 := 0, sr := 0, cnt := 0, next := 0 } ∧
      t.out.bit = .invalid ∧ t.out.cmd = .invalid ∧ t.out.tlm = .invalid ∧ t.out.evTlmExpired = false

/-- R27, R44, R300, R301: what the reset drives on the status outputs. That `err_code` is driven in the reset itself is the
model's inference (log 7). (The baud option's row taken as the reset is the model's choice, log 9.) -/
def Obligations.ResetDrivesTheStatus : Prop :=
  ∀ (sel : BitVec 2) (s : State), ∃ t, exec (decodeBaud sel) s = .next t ∧
    t.out.stPhase = .awaitCmd ∧ t.out.stHalted = t.halted ∧
    t.out.errCode = (if t.halted then .configurationError else .none)

/-- R341: a reset while running discards the whole session: from any two states with the same reset presented, the same moves
to come and the same level at `din`, the step gives the same state: a new session at sample 0, with no record. (The premise on
`din`, and with it that the two states are one, rests on the model's choice that `din` keeps its level through a reset, log 4;
the list of moves is log 1.) -/
def Obligations.ResetDiscardsTheSession : Prop :=
  ∀ (s₁ s₂ : State) (cfg : CfgInputs) (rest : List HostMove),
    s₁.inputs = .reset cfg :: rest → s₂.inputs = .reset cfg :: rest → s₁.ports.din = s₂.ports.din →
    ∃ t, step s₁ = .next t ∧ step s₂ = .next t ∧
      t.sidx = 0 ∧ t.phase = .awaitCmd ∧ t.pend.psV = false ∧ t.cmd.cnt = 0 ∧
      t.out.bit = .invalid ∧ t.out.cmd = .invalid ∧ t.out.tlm = .invalid

/-- R210, R212: a valid GCR code adds its nibble as the next lane, and changes nothing else. (The row as an instruction that
adds a lane is log 9; fifteen table entries are log 12.) -/
def Obligations.ValidCodesGiveTheirNibbles : Prop :=
  ∀ row ∈ Spec.validCodes, ∀ s : State,
    decodeGcr row.2.1 = row.1 ∧
    exec row.1 s = .next { s with
      out := { s.out with wires := { s.out.wires with lanes := s.out.wires.lanes ++ [some row.2.2] } } }

/-- R210, R213: an invalid GCR code adds an invalid lane; the first of a frame is named in the record with its group number
and raises GcrDecodeError, and a later one changes nothing more (that the row raises the error itself is log 20). (The row as
an instruction is log 9.) -/
def Obligations.InvalidCodesAreNamed : Prop :=
  ∀ row ∈ Spec.invalidCodes, ∀ s : State,
    decodeGcr row.2 = row.1 ∧
    exec row.1 s = .next { s with
      out := if s.out.wires.lanes.all Option.isSome then
          { s.out with
            wires := { s.out.wires with lanes := s.out.wires.lanes ++ [none] }
            tlm := { s.out.tlm with
              gcrOk := false, badGroup := BitVec.ofNat 2 s.out.wires.lanes.length, badPattern := row.2 }
            errCode := .gcrDecodeError }
        else { s.out with wires := { s.out.wires with lanes := s.out.wires.lanes ++ [none] } } }

/-- R211: the table is a bijection from sixteen patterns onto the sixteen nibbles. (Fifteen table entries are log 12.) -/
def Obligations.GcrTableIsABijection : Prop :=
  (∀ n : Nibble, ∃ p : GcrCode, gcrLookup p = some n ∧ ∀ q : GcrCode, gcrLookup q = some n → q = p) ∧
  gcrLookup 0b11001 = some 0

/-- R100, R176, R178, R303: CMD_FRAME drives the record of the complete frame, with the checksum over `data12` of a
well-formed instruction, and ChecksumMismatch when it is wrong; it changes nothing else. (The row as an instruction of its own
is log 9, that it raises the error log 20, its operands log 21.) -/
def Obligations.CommandFrameDrivesItsRecord : Prop :=
  ∀ (s : State) (value : BitVec 11) (treq : BitVec 1) (crc : Nibble) (data12 : Data12),
    (Instr.cmdFrame value treq crc data12).wellFormed = true →
    let crc4 := computeChecksum (value ++ treq) s.cfg.bidir
    exec (.cmdFrame value treq crc data12) s = .next { s with
      out := { s.out with
        cmd := { v := true, value := value, treq := treq, crcRx := crc, crcCalc := crc4, crcOk := decide (crc = crc4),
                 overlong := decide (16 < s.cmd.cnt), word := value ++ treq ++ crc,
                 startIdx := s.cmd.startIdx, endIdx := s.cmd.lastEnd }
        errCode := if crc = crc4 then s.out.errCode else .checksumMismatch } }

/-- R103, R215: TLM_RAW reports the raw frame and decodes its data bits differentially; it changes nothing else. (The row as
an instruction is log 9, the signal for the decode log 10.) -/
def Obligations.RawFrameIsDifferentiallyDecoded : Prop :=
  ∀ (s : State) (start : BitVec 1) (x : Data20),
    exec (.tlmRaw start x) s = .next { s with
      out := { s.out with tlm := { s.out.tlm with raw := start ++ x }, wires := { s.out.wires with diff := x ^^^ (x >>> 1) } } }

/-- R104, R214, R216: TLM_GCR_GROUPS looks each group up in a lane of its own: with four valid groups the decoded word is
their nibbles, the first most significant; and running the four codes one by one from empty lanes leaves the same lanes. (The
rows as instructions are log 9, the lanes log 10. That the groups' own row raises GcrDecodeError is the model's inference, log
20: R216 leaves it to the caller, R185.) -/
def Obligations.GroupsDecodeLaneByLane : Prop :=
  ∀ (s : State) (g0 g1 g2 g3 : GcrCode), ∃ t, exec (.tlmGcrGroups g0 g1 g2 g3) s = .next t ∧
    t = { s with out := { s.out with tlm := t.out.tlm, errCode := t.out.errCode, wires := t.out.wires } } ∧
    t.out.wires = { s.out.wires with lanes := [gcrLookup g0, gcrLookup g1, gcrLookup g2, gcrLookup g3] } ∧
    (∀ n0 n1 n2 n3, gcrLookup g0 = some n0 → gcrLookup g1 = some n1 → gcrLookup g2 = some n2 → gcrLookup g3 = some n3 →
      t.out.tlm = { s.out.tlm with gcrOk := true, badGroup := 0, badPattern := 0, decoded := n0 ++ n1 ++ n2 ++ n3 } ∧
      t.out.errCode = s.out.errCode) ∧
    ((gcrLookup g0 = none ∨ gcrLookup g1 = none ∨ gcrLookup g2 = none ∨ gcrLookup g3 = none) →
      t.out.tlm.gcrOk = false ∧ t.out.tlm.decoded = 0 ∧ t.out.errCode = .gcrDecodeError) ∧
    (∃ u, Spec.execAll [decodeGcr g0, decodeGcr g1, decodeGcr g2, decodeGcr g3]
        { s with out := { s.out with wires := { s.out.wires with lanes := [] } } } = .next u ∧ u.out.wires = t.out.wires)

/-- R105, R217: TLM_DECODED reports the payload, the received and the computed checksum and whether they agree, and raises
ChecksumMismatch when they do not (that the stage raises it is log 20); it changes nothing else. (The row as an instruction is
log 9.) -/
def Obligations.DecodedWordIsChecked : Prop :=
  ∀ (s : State) (payload : Data12) (crc : Nibble),
    let crc4 := computeChecksum payload s.cfg.bidir
    exec (.tlmDecoded payload crc) s = .next { s with
      out := { s.out with
        tlm := { s.out.tlm with decoded := payload ++ crc, payload := payload, crcRx := crc, crcCalc := crc4,
                                crcOk := decide (crc = crc4) }
        errCode := if crc = crc4 then s.out.errCode else .checksumMismatch } }

/-- R106, R220: TLM_ERPM: the kind, the exponent, the mantissa, and the period, which is `m * 2^e` microseconds with no
overflow and at most 65408. (The row as an instruction is log 9.) -/
def Obligations.ErpmPeriodIsExact : Prop :=
  ∀ (s : State) (e : BitVec 3) (m : BitVec 9), ∃ t, exec (.tlmErpm e m) s = .next t ∧
    t = { s with out := { s.out with
      tlm := { s.out.tlm with kind := .erpm, exp := e, mant := m, periodUs := t.out.tlm.periodUs } } } ∧
    t.out.tlm.periodUs.toNat = m.toNat * 2 ^ e.toNat ∧ t.out.tlm.periodUs.toNat ≤ 65408

/-- R107, R221: TLM_EDT: the payload as it is, the not-implemented kind, no field extracted and no error. (The row as an
instruction is log 9, the payload it drives log 23.) -/
def Obligations.EdtIsNotImplemented : Prop :=
  ∀ (s : State) (payload : Data12),
    exec (.tlmEdt payload) s = .next { s with
      out := { s.out with
        tlm := { s.out.tlm with payload := payload, kind := .edtNotImplemented, exp := 0, mant := 0, periodUs := 0 } } }

/-! ## The pure units -/

/-- R130 to R133: the derived counts of every configuration; truncating the telemetry bit period first and halving it then
gives the same `H`. -/
def Obligations.DerivedTiming : Prop :=
  ∀ (rate : BitVec 32) (sel : BitVec 2),
    let tim := deriveTiming rate sel
    tim.baud = [150000, 300000, 600000, 1200000].getD sel.toNat 0 ∧ tim.bp = rate.toNat / tim.baud ∧ tim.t = 3 * tim.bp ∧
    tim.h = 2 * rate.toNat / (5 * tim.baud) ∧ tim.h = (4 * rate.toNat / (5 * tim.baud)) / 2

/-- R26: the largest derived counts, and that an index below the limit plus a count fits in 64 bits. -/
def Obligations.TimingCountsAreBounded : Prop :=
  ∀ (rate : BitVec 32) (sel : BitVec 2),
    let tim := deriveTiming rate sel
    tim.bp ≤ 28633 ∧ tim.t ≤ 85899 ∧ tim.h ≤ 11453 ∧
    ∀ i < 2 ^ 64 - 2 ^ 17, i + tim.bp < 2 ^ 64 ∧ i + tim.t < 2 ^ 64 ∧ i + tim.h < 2 ^ 64

/-- R154, and R155 over the rationals: the integer comparison of the command bit classifier is the comparison of the exact duty
ratio with one half. -/
def Obligations.CommandBitIsTheExactDutyRatio : Prop :=
  ∀ start mid stop : Nat, start ≤ mid → start < stop →
    (classifyCommandBit start mid stop = true ↔ ((mid : ℚ) - start) / ((stop : ℚ) - start) > 1 / 2)

/-- R158, R160: the telemetry bit classifier on its four inputs. (The last two inputs cannot occur: log 18.) -/
def Obligations.TelemetryBitClassifier : Prop :=
  classifyTelemetryBit true false = (false, false) ∧ classifyTelemetryBit false true = (true, false) ∧
  classifyTelemetryBit false false = (false, true) ∧ classifyTelemetryBit true true = (false, true)

/-- R200 to R203: both variants of the checksum on nibbles, and the round trip of validation. -/
def Obligations.ChecksumVariants : Prop :=
  ∀ data : Data12,
    computeChecksum data false = data.extractLsb' 0 4 ^^^ data.extractLsb' 4 4 ^^^ data.extractLsb' 8 4 ∧
    computeChecksum data true = computeChecksum data false ^^^ 0xF ∧
    (∀ bidir, validateChecksum data (computeChecksum data bidir) bidir = true) ∧
    (∀ (received : Nibble) bidir, validateChecksum data received bidir = true ↔ received = computeChecksum data bidir)

/-- R215: the differential decode, bit by bit: `d[19] = x[19]` and below it `d[j] = x[j] ^ x[j+1]`; and its stated inverse. -/
def Obligations.DifferentialDecodeInverts : Prop :=
  (∀ x : Data20, (diffDecode x).getLsbD 19 = x.getLsbD 19 ∧
    ∀ j < 19, (diffDecode x).getLsbD j = (x.getLsbD j ^^ x.getLsbD (j + 1))) ∧
  (∀ d : Data20, diffDecode (diffEncode d) = d) ∧
  (∀ x : Data20, diffEncode (diffDecode x) = x)

/-- R72: sixteen bits appended to an empty command accumulator stand MSB first: the `k`-th in arrival order is bit `15 - k`. -/
def Obligations.CommandBitsArriveMsbFirst : Prop :=
  ∀ (s : State) (bits : List (Bool × Nat)), s.cmd.sr = 0 → s.cmd.cnt = 0 → bits.length = 16 →
    let t := bits.foldl (fun u b => cmdAppend b.1 b.2 u) s
    t.cmd.cnt = 16 ∧ ∀ k < 16, t.cmd.sr.getLsbD (15 - k) = (bits.map Prod.fst).getD k false

/-- R73, R181, R183: twenty-one bits appended to an empty telemetry accumulator stand MSB first: the `k`-th is bit `20 - k`. -/
def Obligations.TelemetryBitsArriveMsbFirst : Prop :=
  ∀ (s : State) (bits : List Bool), s.tlm.sr = 0 → s.tlm.cnt = 0 → bits.length = 21 →
    let t := bits.foldl (fun u b => tlmAppend b u) s
    t.tlm.cnt = 21 ∧ ∀ k < 21, t.tlm.sr.getLsbD (20 - k) = bits.getD k false

/-! ## Encodings -/

/-- Decode and encode agree: every well-formed instruction is read back from its encoding, with every operand at every value. -/
def Obligations.DecodeOfEncode : Prop :=
  ∀ i : Instr, i.wellFormed = true → decode (encode i).1 (encode i).2 = .instr i

/-- Outside the step-select words, whose don't-care bits name no operand, each word has one meaning: encoding what it decodes
to gives the word back; and every decoded instruction is well-formed. -/
def Obligations.EncodeOfDecode : Prop :=
  ∀ (f : Format) (w : Nat) (i : Instr), decode f w = .instr i →
    i.wellFormed = true ∧ i.format = f ∧ (f ≠ .step8 → encode i = (f, w))

/-- A word is refused by name exactly when it does not fit its format. -/
def Obligations.WideWordsAreRefused : Prop :=
  ∀ (f : Format) (w : Nat),
    (2 ^ f.width ≤ w ↔ decode f w = .refused (.wordTooWide f)) ∧ (w < 2 ^ f.width ↔ ∃ i, decode f w = .instr i)

/-- R91, R100, R103 to R106, R108, R110: words written out from the spec's encodings decode to the instructions they stand for. -/
def Obligations.WrittenWordsDecode : Prop :=
  decode .step8 0b10000010 = .instr .halt ∧ decode .step8 0b00110110 = .instr .cmdStartEdge ∧
  decode .step8 0b00101100 = .instr .cmdEndEdge ∧ decode .step8 0b01000110 = .instr .tlmExpire ∧
  decode .step8 0b01101111 = .instr .tlmFinish ∧ decode .gcr5 0b11001 = .instr .gcr11001 ∧
  decode .gcr5 0b01100 = .instr .gcr01100Invalid ∧ decode .baudSel2 0b01 = .instr .baud300000 ∧
  decode .cmd16 0b0000000001100101 = .instr (.cmdFrame 3 0 0b0101 0b000000000110) ∧
  decode .tlm21 0b010001011101000101110 = .instr (.tlmRaw 0 0b10001011101000101110) ∧
  decode .tlm20d 0b11001110011100111001 = .instr (.tlmGcrGroups 0b11001 0b11001 0b11001 0b11001) ∧
  decode .tlm16 0b0100011001001001 = .instr (.tlmDecoded 0b010001100100 0b1001) ∧
  decode .erpm12 0b010001100100 = .instr (.tlmErpm 0b010 0b001100100)

/-! ## Whole-machine rules -/

/-- R35, with R25 and R27: the invariant holds right after reset, whatever the configuration inputs are. (The clause on
`last_evt` is log 15, the configuration of State.reset log 3.) -/
def Obligations.InvariantHoldsAfterReset : Prop :=
  Safety.Inv State.reset ∧ ∀ (ports : Ports) (inputs : List HostMove), Safety.Inv (State.afterReset ports inputs)

/-- R35, with R25 and R27: every step keeps the invariant. (The clause on `last_evt` is log 15.) -/
def Obligations.EveryStepKeepsTheInvariant : Prop :=
  ∀ s t : State, Safety.Inv s → step s = .next t → Safety.Inv t

/-- R26: the index bounds hold right after reset. (The configuration of State.reset is log 3.) -/
def Obligations.IndexBoundsHoldAfterReset : Prop :=
  IndexBounds State.reset ∧ ∀ (ports : Ports) (inputs : List HostMove), IndexBounds (State.afterReset ports inputs)

/-- R26: every step keeps the index bounds, so no index the block holds or drives ever needs more than its 64 bits. (Natural
indices and the refusal at the limit are log 5.) -/
def Obligations.EveryStepKeepsIndicesIn64Bits : Prop :=
  (∀ s t : State, Safety.Inv s → IndexBounds s → step s = .next t → IndexBounds t) ∧
  (∀ s : State, IndexBounds s → s.sidx < 2 ^ 64 ∧ indexBound s < 2 ^ 64)

/-- R253: a step enters AWAIT_TLM only in bidirectional mode and with a complete, checksum-valid command frame finalised in that
very step, whose end it records as the origin of the ceiling. -/
def Obligations.TelemetryGateNeedsAValidFrame : Prop :=
  ∀ s t : State, step s = .next t → s.phase ≠ .awaitTlm → t.phase = .awaitTlm →
    s.cfg.bidir = true ∧ (s.phase = .awaitCmd ∨ s.phase = .recvCmd) ∧
    t.out.cmd.v = true ∧ t.out.cmd.crcOk = true ∧ t.lc = { v := true, endIdx := t.out.cmd.endIdx } ∧ t.cfg = s.cfg

/-- R253: with `bidir = 0` the telemetry phases are unreachable. -/
def Obligations.UnidirectionalBlockStaysInTheCommandPhase : Prop :=
  ∀ s t : State, (s.cfg.bidir = false → commandPhase s.phase = true) → step s = .next t →
    (t.cfg.bidir = false → commandPhase t.phase = true)

/-- R268: the phase transition of every sample step is a row of the table; a halted block keeps its phase. -/
def Obligations.PhaseTransitionsAreTheTable : Prop :=
  ∀ (s t : State) (din : Bool) (rest : List HostMove), s.inputs = .sample din :: rest → step s = .next t →
    let op := decodeStep (stepSelect (Spec.atSample din rest s))
    (s.halted = true → op = .halt ∧ t.phase = s.phase) ∧
    (s.halted = false → (op, s.phase, t.phase) ∈ Spec.transitions)

/-- R40, R44, R45, R300, R302, R305: what any sample or reset drives: an invalid record is all zeros, at most one frame record is
valid, the status is that of the state after, and neither BitTimingError nor FrameIncomplete is ever driven. -/
def Obligations.OutputsAreWellFormed : Prop :=
  ∀ s t : State, s.inputs ≠ [] → step s = .next t →
    (t.out.bit.v = false → t.out.bit = .invalid) ∧ (t.out.cmd.v = false → t.out.cmd = .invalid) ∧
    (t.out.tlm.v = false → t.out.tlm = .invalid) ∧ ¬(t.out.cmd.v = true ∧ t.out.tlm.v = true) ∧
    t.out.stPhase = t.phase ∧ t.out.stHalted = t.halted ∧
    t.out.errCode ≠ .bitTimingError ∧ t.out.errCode ≠ .frameIncomplete

/-- R24, R25, R306: only a reset changes the configuration, the derived counts or `halted`; and while `halted` is 1 a sample
changes no register at all (R27). (The list of moves is log 1.) -/
def Obligations.OnlyResetChangesTheConfiguration : Prop :=
  ∀ (s t : State) (din : Bool) (rest : List HostMove), s.inputs = .sample din :: rest → step s = .next t →
    t.inputs = rest ∧ t.cfg = s.cfg ∧ t.tim = s.tim ∧ t.halted = s.halted ∧
    (s.halted = true → t = { s with inputs := t.inputs, ports := t.ports, out := t.out })

/-- R350, R265: between sampling points the level of the line makes no difference in RECV_TLM, except as the previous level. -/
def Obligations.GlitchBetweenSamplingPointsIsInvisible : Prop :=
  ∀ (s : State) (rest : List HostMove), s.phase = .recvTlm → s.halted = false → s.sidx ≠ s.tlm.next →
    s.sidx < 2 ^ 64 - 2 ^ 17 → ∀ a b : Bool, ∃ t,
      step { s with inputs := .sample a :: rest } = .next t ∧
      step { s with inputs := .sample b :: rest } =
        .next { t with ports := { t.ports with din := b }, line := { t.line with prevDin := b } }

/-- R244, R246, corner cases: in a state of the invariant, a selected start edge never finds a start with no mid, and a selected
end edge never finds a mid already set: edges alternate. -/
def Obligations.EdgesAlternate : Prop :=
  ∀ (s : State) (din : Bool) (rest : List HostMove), Safety.Inv s → s.inputs = .sample din :: rest →
    let p := Spec.atSample din rest s
    (decodeStep (stepSelect p) = .cmdStartEdge → s.pend.psV = true → s.pend.pmV = true) ∧
    (decodeStep (stepSelect p) = .cmdEndEdge → s.pend.pmV = false)

/-- R255, R263: from RECV_TLM the block returns to AWAIT_CMD at sample `tlm_t0 + 42*H`, whatever the line does: after exactly
the samples up to that one, with the telemetry record in its outputs. (For frames that end below the index limit: log 5; the
list of moves is log 1.) -/
def Obligations.TelemetryFrameEndsAfterItsSamples : Prop :=
  ∀ (s : State) (levels : List Bool), Safety.Inv s → s.phase = .recvTlm → s.halted = false →
    s.inputs = Spec.samples levels → s.tlm.t0 + 42 * s.tim.h < 2 ^ 64 - 2 ^ 17 →
    s.sidx + levels.length = s.tlm.t0 + 42 * s.tim.h + 1 →
    ∃ t, Sys2Proof.core.run levels.length s = .next t ∧ t.phase = .awaitCmd ∧ t.out.tlm.v = true ∧
      t.out.tlm.startIdx = s.tlm.t0 ∧ t.out.tlm.endIdx = s.tlm.t0 + 42 * s.tim.h ∧
      t.lastEvt = s.tlm.t0 + 42 * s.tim.h ∧ t.inputs = []
end

