-- ==== Sys2Proof/Laws/State.lean ====
section
/-! SUPPORT. For every named update of the state, what each field is after it: one lemma per field, true by definition, so that no
proof unfolds a record update. -/

namespace Sys2Proof.Machine

/-! ### drive -/

@[simp] theorem drive_inputs (f : Outputs → Outputs) (s : State) : (drive f s).inputs = s.inputs := rfl
@[simp] theorem drive_ports (f : Outputs → Outputs) (s : State) : (drive f s).ports = s.ports := rfl
@[simp] theorem drive_cfg (f : Outputs → Outputs) (s : State) : (drive f s).cfg = s.cfg := rfl
@[simp] theorem drive_tim (f : Outputs → Outputs) (s : State) : (drive f s).tim = s.tim := rfl
@[simp] theorem drive_halted (f : Outputs → Outputs) (s : State) : (drive f s).halted = s.halted := rfl
@[simp] theorem drive_sidx (f : Outputs → Outputs) (s : State) : (drive f s).sidx = s.sidx := rfl
@[simp] theorem drive_phase (f : Outputs → Outputs) (s : State) : (drive f s).phase = s.phase := rfl
@[simp] theorem drive_line (f : Outputs → Outputs) (s : State) : (drive f s).line = s.line := rfl
@[simp] theorem drive_pend (f : Outputs → Outputs) (s : State) : (drive f s).pend = s.pend := rfl
@[simp] theorem drive_lastEvt (f : Outputs → Outputs) (s : State) : (drive f s).lastEvt = s.lastEvt := rfl
@[simp] theorem drive_cmd (f : Outputs → Outputs) (s : State) : (drive f s).cmd = s.cmd := rfl
@[simp] theorem drive_lc (f : Outputs → Outputs) (s : State) : (drive f s).lc = s.lc := rfl
@[simp] theorem drive_tlm (f : Outputs → Outputs) (s : State) : (drive f s).tlm = s.tlm := rfl
@[simp] theorem drive_out (f : Outputs → Outputs) (s : State) : (drive f s).out = f s.out := rfl

/-! ### beginStep -/

@[simp] theorem beginStep_inputs (s : State) : (beginStep s).inputs = s.inputs := rfl
@[simp] theorem beginStep_ports (s : State) : (beginStep s).ports = s.ports := rfl
@[simp] theorem beginStep_cfg (s : State) : (beginStep s).cfg = s.cfg := rfl
@[simp] theorem beginStep_tim (s : State) : (beginStep s).tim = s.tim := rfl
@[simp] theorem beginStep_halted (s : State) : (beginStep s).halted = s.halted := rfl
@[simp] theorem beginStep_sidx (s : State) : (beginStep s).sidx = s.sidx := rfl
@[simp] theorem beginStep_phase (s : State) : (beginStep s).phase = s.phase := rfl
@[simp] theorem beginStep_line (s : State) : (beginStep s).line = s.line := rfl
@[simp] theorem beginStep_pend (s : State) : (beginStep s).pend = s.pend := rfl
@[simp] theorem beginStep_lastEvt (s : State) : (beginStep s).lastEvt = s.lastEvt := rfl
@[simp] theorem beginStep_cmd (s : State) : (beginStep s).cmd = s.cmd := rfl
@[simp] theorem beginStep_lc (s : State) : (beginStep s).lc = s.lc := rfl
@[simp] theorem beginStep_tlm (s : State) : (beginStep s).tlm = s.tlm := rfl
@[simp] theorem beginStep_out (s : State) : (beginStep s).out = Outputs.quiet s.phase s.halted := rfl

/-! ### epilogue -/

@[simp] theorem epilogue_inputs (s : State) : (epilogue s).inputs = s.inputs := rfl
@[simp] theorem epilogue_ports (s : State) : (epilogue s).ports = s.ports := rfl
@[simp] theorem epilogue_cfg (s : State) : (epilogue s).cfg = s.cfg := rfl
@[simp] theorem epilogue_tim (s : State) : (epilogue s).tim = s.tim := rfl
@[simp] theorem epilogue_halted (s : State) : (epilogue s).halted = s.halted := rfl
@[simp] theorem epilogue_sidx (s : State) : (epilogue s).sidx = s.sidx + 1 := rfl
@[simp] theorem epilogue_phase (s : State) : (epilogue s).phase = s.phase := rfl
@[simp] theorem epilogue_line (s : State) : (epilogue s).line = { prevDin := s.ports.din, prevValid := true } := rfl
@[simp] theorem epilogue_pend (s : State) : (epilogue s).pend = s.pend := rfl
@[simp] theorem epilogue_lastEvt (s : State) : (epilogue s).lastEvt = s.lastEvt := rfl
@[simp] theorem epilogue_cmd (s : State) : (epilogue s).cmd = s.cmd := rfl
@[simp] theorem epilogue_lc (s : State) : (epilogue s).lc = s.lc := rfl
@[simp] theorem epilogue_tlm (s : State) : (epilogue s).tlm = s.tlm := rfl
@[simp] theorem epilogue_out (s : State) : (epilogue s).out = s.out := rfl

/-! ### driveStatus -/

@[simp] theorem driveStatus_inputs (s : State) : (driveStatus s).inputs = s.inputs := rfl
@[simp] theorem driveStatus_ports (s : State) : (driveStatus s).ports = s.ports := rfl
@[simp] theorem driveStatus_cfg (s : State) : (driveStatus s).cfg = s.cfg := rfl
@[simp] theorem driveStatus_tim (s : State) : (driveStatus s).tim = s.tim := rfl
@[simp] theorem driveStatus_halted (s : State) : (driveStatus s).halted = s.halted := rfl
@[simp] theorem driveStatus_sidx (s : State) : (driveStatus s).sidx = s.sidx := rfl
@[simp] theorem driveStatus_phase (s : State) : (driveStatus s).phase = s.phase := rfl
@[simp] theorem driveStatus_line (s : State) : (driveStatus s).line = s.line := rfl
@[simp] theorem driveStatus_pend (s : State) : (driveStatus s).pend = s.pend := rfl
@[simp] theorem driveStatus_lastEvt (s : State) : (driveStatus s).lastEvt = s.lastEvt := rfl
@[simp] theorem driveStatus_cmd (s : State) : (driveStatus s).cmd = s.cmd := rfl
@[simp] theorem driveStatus_lc (s : State) : (driveStatus s).lc = s.lc := rfl
@[simp] theorem driveStatus_tlm (s : State) : (driveStatus s).tlm = s.tlm := rfl
@[simp] theorem driveStatus_out (s : State) : (driveStatus s).out = { s.out with stPhase := s.phase, stHalted := s.halted } := rfl

/-! ### raiseError -/

@[simp] theorem raiseError_inputs (e : ErrCode) (s : State) : (raiseError e s).inputs = s.inputs := rfl
@[simp] theorem raiseError_ports (e : ErrCode) (s : State) : (raiseError e s).ports = s.ports := rfl
@[simp] theorem raiseError_cfg (e : ErrCode) (s : State) : (raiseError e s).cfg = s.cfg := rfl
@[simp] theorem raiseError_tim (e : ErrCode) (s : State) : (raiseError e s).tim = s.tim := rfl
@[simp] theorem raiseError_halted (e : ErrCode) (s : State) : (raiseError e s).halted = s.halted := rfl
@[simp] theorem raiseError_sidx (e : ErrCode) (s : State) : (raiseError e s).sidx = s.sidx := rfl
@[simp] theorem raiseError_phase (e : ErrCode) (s : State) : (raiseError e s).phase = s.phase := rfl
@[simp] theorem raiseError_line (e : ErrCode) (s : State) : (raiseError e s).line = s.line := rfl
@[simp] theorem raiseError_pend (e : ErrCode) (s : State) : (raiseError e s).pend = s.pend := rfl
@[simp] theorem raiseError_lastEvt (e : ErrCode) (s : State) : (raiseError e s).lastEvt = s.lastEvt := rfl
@[simp] theorem raiseError_cmd (e : ErrCode) (s : State) : (raiseError e s).cmd = s.cmd := rfl
@[simp] theorem raiseError_lc (e : ErrCode) (s : State) : (raiseError e s).lc = s.lc := rfl
@[simp] theorem raiseError_tlm (e : ErrCode) (s : State) : (raiseError e s).tlm = s.tlm := rfl
@[simp] theorem raiseError_out (e : ErrCode) (s : State) : (raiseError e s).out = { s.out with errCode := e } := rfl

/-! ### emitBit -/

@[simp] theorem emitBit_inputs (r : BitRecord) (s : State) : (emitBit r s).inputs = s.inputs := rfl
@[simp] theorem emitBit_ports (r : BitRecord) (s : State) : (emitBit r s).ports = s.ports := rfl
@[simp] theorem emitBit_cfg (r : BitRecord) (s : State) : (emitBit r s).cfg = s.cfg := rfl
@[simp] theorem emitBit_tim (r : BitRecord) (s : State) : (emitBit r s).tim = s.tim := rfl
@[simp] theorem emitBit_halted (r : BitRecord) (s : State) : (emitBit r s).halted = s.halted := rfl
@[simp] theorem emitBit_sidx (r : BitRecord) (s : State) : (emitBit r s).sidx = s.sidx := rfl
@[simp] theorem emitBit_phase (r : BitRecord) (s : State) : (emitBit r s).phase = s.phase := rfl
@[simp] theorem emitBit_line (r : BitRecord) (s : State) : (emitBit r s).line = s.line := rfl
@[simp] theorem emitBit_pend (r : BitRecord) (s : State) : (emitBit r s).pend = s.pend := rfl
@[simp] theorem emitBit_lastEvt (r : BitRecord) (s : State) : (emitBit r s).lastEvt = s.lastEvt := rfl
@[simp] theorem emitBit_cmd (r : BitRecord) (s : State) : (emitBit r s).cmd = s.cmd := rfl
@[simp] theorem emitBit_lc (r : BitRecord) (s : State) : (emitBit r s).lc = s.lc := rfl
@[simp] theorem emitBit_tlm (r : BitRecord) (s : State) : (emitBit r s).tlm = s.tlm := rfl
@[simp] theorem emitBit_out (r : BitRecord) (s : State) : (emitBit r s).out = { s.out with bit := r } := rfl

/-! ### goTo -/

@[simp] theorem goTo_inputs (p : Phase) (s : State) : (goTo p s).inputs = s.inputs := rfl
@[simp] theorem goTo_ports (p : Phase) (s : State) : (goTo p s).ports = s.ports := rfl
@[simp] theorem goTo_cfg (p : Phase) (s : State) : (goTo p s).cfg = s.cfg := rfl
@[simp] theorem goTo_tim (p : Phase) (s : State) : (goTo p s).tim = s.tim := rfl
@[simp] theorem goTo_halted (p : Phase) (s : State) : (goTo p s).halted = s.halted := rfl
@[simp] theorem goTo_sidx (p : Phase) (s : State) : (goTo p s).sidx = s.sidx := rfl
@[simp] theorem goTo_phase (p : Phase) (s : State) : (goTo p s).phase = p := rfl
@[simp] theorem goTo_line (p : Phase) (s : State) : (goTo p s).line = s.line := rfl
@[simp] theorem goTo_pend (p : Phase) (s : State) : (goTo p s).pend = s.pend := rfl
@[simp] theorem goTo_lastEvt (p : Phase) (s : State) : (goTo p s).lastEvt = s.lastEvt := rfl
@[simp] theorem goTo_cmd (p : Phase) (s : State) : (goTo p s).cmd = s.cmd := rfl
@[simp] theorem goTo_lc (p : Phase) (s : State) : (goTo p s).lc = s.lc := rfl
@[simp] theorem goTo_tlm (p : Phase) (s : State) : (goTo p s).tlm = s.tlm := rfl
@[simp] theorem goTo_out (p : Phase) (s : State) : (goTo p s).out = s.out := rfl

/-! ### restartWindow -/

@[simp] theorem restartWindow_inputs (i : Nat) (s : State) : (restartWindow i s).inputs = s.inputs := rfl
@[simp] theorem restartWindow_ports (i : Nat) (s : State) : (restartWindow i s).ports = s.ports := rfl
@[simp] theorem restartWindow_cfg (i : Nat) (s : State) : (restartWindow i s).cfg = s.cfg := rfl
@[simp] theorem restartWindow_tim (i : Nat) (s : State) : (restartWindow i s).tim = s.tim := rfl
@[simp] theorem restartWindow_halted (i : Nat) (s : State) : (restartWindow i s).halted = s.halted := rfl
@[simp] theorem restartWindow_sidx (i : Nat) (s : State) : (restartWindow i s).sidx = s.sidx := rfl
@[simp] theorem restartWindow_phase (i : Nat) (s : State) : (restartWindow i s).phase = s.phase := rfl
@[simp] theorem restartWindow_line (i : Nat) (s : State) : (restartWindow i s).line = s.line := rfl
@[simp] theorem restartWindow_pend (i : Nat) (s : State) : (restartWindow i s).pend = s.pend := rfl
@[simp] theorem restartWindow_lastEvt (i : Nat) (s : State) : (restartWindow i s).lastEvt = i := rfl
@[simp] theorem restartWindow_cmd (i : Nat) (s : State) : (restartWindow i s).cmd = s.cmd := rfl
@[simp] theorem restartWindow_lc (i : Nat) (s : State) : (restartWindow i s).lc = s.lc := rfl
@[simp] theorem restartWindow_tlm (i : Nat) (s : State) : (restartWindow i s).tlm = s.tlm := rfl
@[simp] theorem restartWindow_out (i : Nat) (s : State) : (restartWindow i s).out = s.out := rfl

/-! ### cmdAppend -/

@[simp] theorem cmdAppend_inputs (v : Bool) (e : Nat) (s : State) : (cmdAppend v e s).inputs = s.inputs := rfl
@[simp] theorem cmdAppend_ports (v : Bool) (e : Nat) (s : State) : (cmdAppend v e s).ports = s.ports := rfl
@[simp] theorem cmdAppend_cfg (v : Bool) (e : Nat) (s : State) : (cmdAppend v e s).cfg = s.cfg := rfl
@[simp] theorem cmdAppend_tim (v : Bool) (e : Nat) (s : State) : (cmdAppend v e s).tim = s.tim := rfl
@[simp] theorem cmdAppend_halted (v : Bool) (e : Nat) (s : State) : (cmdAppend v e s).halted = s.halted := rfl
@[simp] theorem cmdAppend_sidx (v : Bool) (e : Nat) (s : State) : (cmdAppend v e s).sidx = s.sidx := rfl
@[simp] theorem cmdAppend_phase (v : Bool) (e : Nat) (s : State) : (cmdAppend v e s).phase = s.phase := rfl
@[simp] theorem cmdAppend_line (v : Bool) (e : Nat) (s : State) : (cmdAppend v e s).line = s.line := rfl
@[simp] theorem cmdAppend_pend (v : Bool) (e : Nat) (s : State) : (cmdAppend v e s).pend = s.pend := rfl
@[simp] theorem cmdAppend_lastEvt (v : Bool) (e : Nat) (s : State) : (cmdAppend v e s).lastEvt = s.lastEvt := rfl
@[simp] theorem cmdAppend_cmd (v : Bool) (e : Nat) (s : State) : (cmdAppend v e s).cmd = { s.cmd with sr := shiftIn s.cmd.sr v, cnt := min (s.cmd.cnt + 1) Config.cmdCntMax, lastEnd := e } := rfl
@[simp] theorem cmdAppend_lc (v : Bool) (e : Nat) (s : State) : (cmdAppend v e s).lc = s.lc := rfl
@[simp] theorem cmdAppend_tlm (v : Bool) (e : Nat) (s : State) : (cmdAppend v e s).tlm = s.tlm := rfl
@[simp] theorem cmdAppend_out (v : Bool) (e : Nat) (s : State) : (cmdAppend v e s).out = s.out := rfl

/-! ### cmdClear -/

@[simp] theorem cmdClear_inputs (s : State) : (cmdClear s).inputs = s.inputs := rfl
@[simp] theorem cmdClear_ports (s : State) : (cmdClear s).ports = s.ports := rfl
@[simp] theorem cmdClear_cfg (s : State) : (cmdClear s).cfg = s.cfg := rfl
@[simp] theorem cmdClear_tim (s : State) : (cmdClear s).tim = s.tim := rfl
@[simp] theorem cmdClear_halted (s : State) : (cmdClear s).halted = s.halted := rfl
@[simp] theorem cmdClear_sidx (s : State) : (cmdClear s).sidx = s.sidx := rfl
@[simp] theorem cmdClear_phase (s : State) : (cmdClear s).phase = s.phase := rfl
@[simp] theorem cmdClear_line (s : State) : (cmdClear s).line = s.line := rfl
@[simp] theorem cmdClear_pend (s : State) : (cmdClear s).pend = { s.pend with psV := false, pmV := false } := rfl
@[simp] theorem cmdClear_lastEvt (s : State) : (cmdClear s).lastEvt = s.lastEvt := rfl
@[simp] theorem cmdClear_cmd (s : State) : (cmdClear s).cmd = { s.cmd with sr := 0, cnt := 0 } := rfl
@[simp] theorem cmdClear_lc (s : State) : (cmdClear s).lc = s.lc := rfl
@[simp] theorem cmdClear_tlm (s : State) : (cmdClear s).tlm = s.tlm := rfl
@[simp] theorem cmdClear_out (s : State) : (cmdClear s).out = s.out := rfl

/-! ### tlmBegin -/

@[simp] theorem tlmBegin_inputs (i : Nat) (s : State) : (tlmBegin i s).inputs = s.inputs := rfl
@[simp] theorem tlmBegin_ports (i : Nat) (s : State) : (tlmBegin i s).ports = s.ports := rfl
@[simp] theorem tlmBegin_cfg (i : Nat) (s : State) : (tlmBegin i s).cfg = s.cfg := rfl
@[simp] theorem tlmBegin_tim (i : Nat) (s : State) : (tlmBegin i s).tim = s.tim := rfl
@[simp] theorem tlmBegin_halted (i : Nat) (s : State) : (tlmBegin i s).halted = s.halted := rfl
@[simp] theorem tlmBegin_sidx (i : Nat) (s : State) : (tlmBegin i s).sidx = s.sidx := rfl
@[simp] theorem tlmBegin_phase (i : Nat) (s : State) : (tlmBegin i s).phase = s.phase := rfl
@[simp] theorem tlmBegin_line (i : Nat) (s : State) : (tlmBegin i s).line = s.line := rfl
@[simp] theorem tlmBegin_pend (i : Nat) (s : State) : (tlmBegin i s).pend = s.pend := rfl
@[simp] theorem tlmBegin_lastEvt (i : Nat) (s : State) : (tlmBegin i s).lastEvt = s.lastEvt := rfl
@[simp] theorem tlmBegin_cmd (i : Nat) (s : State) : (tlmBegin i s).cmd = s.cmd := rfl
@[simp] theorem tlmBegin_lc (i : Nat) (s : State) : (tlmBegin i s).lc = s.lc := rfl
@[simp] theorem tlmBegin_tlm (i : Nat) (s : State) : (tlmBegin i s).tlm = { t0 := i, sr := 0, cnt := 0, next := i + s.tim.h } := rfl
@[simp] theorem tlmBegin_out (i : Nat) (s : State) : (tlmBegin i s).out = s.out := rfl

/-! ### tlmAppend -/

@[simp] theorem tlmAppend_inputs (v : Bool) (s : State) : (tlmAppend v s).inputs = s.inputs := rfl
@[simp] theorem tlmAppend_ports (v : Bool) (s : State) : (tlmAppend v s).ports = s.ports := rfl
@[simp] theorem tlmAppend_cfg (v : Bool) (s : State) : (tlmAppend v s).cfg = s.cfg := rfl
@[simp] theorem tlmAppend_tim (v : Bool) (s : State) : (tlmAppend v s).tim = s.tim := rfl
@[simp] theorem tlmAppend_halted (v : Bool) (s : State) : (tlmAppend v s).halted = s.halted := rfl
@[simp] theorem tlmAppend_sidx (v : Bool) (s : State) : (tlmAppend v s).sidx = s.sidx := rfl
@[simp] theorem tlmAppend_phase (v : Bool) (s : State) : (tlmAppend v s).phase = s.phase := rfl
@[simp] theorem tlmAppend_line (v : Bool) (s : State) : (tlmAppend v s).line = s.line := rfl
@[simp] theorem tlmAppend_pend (v : Bool) (s : State) : (tlmAppend v s).pend = s.pend := rfl
@[simp] theorem tlmAppend_lastEvt (v : Bool) (s : State) : (tlmAppend v s).lastEvt = s.lastEvt := rfl
@[simp] theorem tlmAppend_cmd (v : Bool) (s : State) : (tlmAppend v s).cmd = s.cmd := rfl
@[simp] theorem tlmAppend_lc (v : Bool) (s : State) : (tlmAppend v s).lc = s.lc := rfl
@[simp] theorem tlmAppend_tlm (v : Bool) (s : State) : (tlmAppend v s).tlm = { s.tlm with sr := shiftIn s.tlm.sr v, cnt := s.tlm.cnt + 1 } := rfl
@[simp] theorem tlmAppend_out (v : Bool) (s : State) : (tlmAppend v s).out = s.out := rfl

/-! ### tlmAdvance -/

@[simp] theorem tlmAdvance_inputs (i : Nat) (s : State) : (tlmAdvance i s).inputs = s.inputs := rfl
@[simp] theorem tlmAdvance_ports (i : Nat) (s : State) : (tlmAdvance i s).ports = s.ports := rfl
@[simp] theorem tlmAdvance_cfg (i : Nat) (s : State) : (tlmAdvance i s).cfg = s.cfg := rfl
@[simp] theorem tlmAdvance_tim (i : Nat) (s : State) : (tlmAdvance i s).tim = s.tim := rfl
@[simp] theorem tlmAdvance_halted (i : Nat) (s : State) : (tlmAdvance i s).halted = s.halted := rfl
@[simp] theorem tlmAdvance_sidx (i : Nat) (s : State) : (tlmAdvance i s).sidx = s.sidx := rfl
@[simp] theorem tlmAdvance_phase (i : Nat) (s : State) : (tlmAdvance i s).phase = s.phase := rfl
@[simp] theorem tlmAdvance_line (i : Nat) (s : State) : (tlmAdvance i s).line = s.line := rfl
@[simp] theorem tlmAdvance_pend (i : Nat) (s : State) : (tlmAdvance i s).pend = s.pend := rfl
@[simp] theorem tlmAdvance_lastEvt (i : Nat) (s : State) : (tlmAdvance i s).lastEvt = s.lastEvt := rfl
@[simp] theorem tlmAdvance_cmd (i : Nat) (s : State) : (tlmAdvance i s).cmd = s.cmd := rfl
@[simp] theorem tlmAdvance_lc (i : Nat) (s : State) : (tlmAdvance i s).lc = s.lc := rfl
@[simp] theorem tlmAdvance_tlm (i : Nat) (s : State) : (tlmAdvance i s).tlm = { s.tlm with next := if s.tlm.cnt < Config.tlmFrameBits then i + 2 * s.tim.h else i + s.tim.h } := rfl
@[simp] theorem tlmAdvance_out (i : Nat) (s : State) : (tlmAdvance i s).out = s.out := rfl

/-! ### driveRaw -/

@[simp] theorem driveRaw_inputs (raw : Raw21) (s : State) : (driveRaw raw s).inputs = s.inputs := rfl
@[simp] theorem driveRaw_ports (raw : Raw21) (s : State) : (driveRaw raw s).ports = s.ports := rfl
@[simp] theorem driveRaw_cfg (raw : Raw21) (s : State) : (driveRaw raw s).cfg = s.cfg := rfl
@[simp] theorem driveRaw_tim (raw : Raw21) (s : State) : (driveRaw raw s).tim = s.tim := rfl
@[simp] theorem driveRaw_halted (raw : Raw21) (s : State) : (driveRaw raw s).halted = s.halted := rfl
@[simp] theorem driveRaw_sidx (raw : Raw21) (s : State) : (driveRaw raw s).sidx = s.sidx := rfl
@[simp] theorem driveRaw_phase (raw : Raw21) (s : State) : (driveRaw raw s).phase = s.phase := rfl
@[simp] theorem driveRaw_line (raw : Raw21) (s : State) : (driveRaw raw s).line = s.line := rfl
@[simp] theorem driveRaw_pend (raw : Raw21) (s : State) : (driveRaw raw s).pend = s.pend := rfl
@[simp] theorem driveRaw_lastEvt (raw : Raw21) (s : State) : (driveRaw raw s).lastEvt = s.lastEvt := rfl
@[simp] theorem driveRaw_cmd (raw : Raw21) (s : State) : (driveRaw raw s).cmd = s.cmd := rfl
@[simp] theorem driveRaw_lc (raw : Raw21) (s : State) : (driveRaw raw s).lc = s.lc := rfl
@[simp] theorem driveRaw_tlm (raw : Raw21) (s : State) : (driveRaw raw s).tlm = s.tlm := rfl
@[simp] theorem driveRaw_out (raw : Raw21) (s : State) : (driveRaw raw s).out = { s.out with tlm := { s.out.tlm with raw := raw }, wires := { s.out.wires with diff := diffDecode (rawData raw) } } := rfl

/-! ### driveErpm -/

@[simp] theorem driveErpm_inputs (e : BitVec 3) (m : BitVec 9) (s : State) : (driveErpm e m s).inputs = s.inputs := rfl
@[simp] theorem driveErpm_ports (e : BitVec 3) (m : BitVec 9) (s : State) : (driveErpm e m s).ports = s.ports := rfl
@[simp] theorem driveErpm_cfg (e : BitVec 3) (m : BitVec 9) (s : State) : (driveErpm e m s).cfg = s.cfg := rfl
@[simp] theorem driveErpm_tim (e : BitVec 3) (m : BitVec 9) (s : State) : (driveErpm e m s).tim = s.tim := rfl
@[simp] theorem driveErpm_halted (e : BitVec 3) (m : BitVec 9) (s : State) : (driveErpm e m s).halted = s.halted := rfl
@[simp] theorem driveErpm_sidx (e : BitVec 3) (m : BitVec 9) (s : State) : (driveErpm e m s).sidx = s.sidx := rfl
@[simp] theorem driveErpm_phase (e : BitVec 3) (m : BitVec 9) (s : State) : (driveErpm e m s).phase = s.phase := rfl
@[simp] theorem driveErpm_line (e : BitVec 3) (m : BitVec 9) (s : State) : (driveErpm e m s).line = s.line := rfl
@[simp] theorem driveErpm_pend (e : BitVec 3) (m : BitVec 9) (s : State) : (driveErpm e m s).pend = s.pend := rfl
@[simp] theorem driveErpm_lastEvt (e : BitVec 3) (m : BitVec 9) (s : State) : (driveErpm e m s).lastEvt = s.lastEvt := rfl
@[simp] theorem driveErpm_cmd (e : BitVec 3) (m : BitVec 9) (s : State) : (driveErpm e m s).cmd = s.cmd := rfl
@[simp] theorem driveErpm_lc (e : BitVec 3) (m : BitVec 9) (s : State) : (driveErpm e m s).lc = s.lc := rfl
@[simp] theorem driveErpm_tlm (e : BitVec 3) (m : BitVec 9) (s : State) : (driveErpm e m s).tlm = s.tlm := rfl
@[simp] theorem driveErpm_out (e : BitVec 3) (m : BitVec 9) (s : State) : (driveErpm e m s).out = { s.out with tlm := { s.out.tlm with kind := .erpm, exp := e, mant := m, periodUs := erpmPeriod e m } } := rfl

/-! ### driveEdt -/

@[simp] theorem driveEdt_inputs (p : Data12) (s : State) : (driveEdt p s).inputs = s.inputs := rfl
@[simp] theorem driveEdt_ports (p : Data12) (s : State) : (driveEdt p s).ports = s.ports := rfl
@[simp] theorem driveEdt_cfg (p : Data12) (s : State) : (driveEdt p s).cfg = s.cfg := rfl
@[simp] theorem driveEdt_tim (p : Data12) (s : State) : (driveEdt p s).tim = s.tim := rfl
@[simp] theorem driveEdt_halted (p : Data12) (s : State) : (driveEdt p s).halted = s.halted := rfl
@[simp] theorem driveEdt_sidx (p : Data12) (s : State) : (driveEdt p s).sidx = s.sidx := rfl
@[simp] theorem driveEdt_phase (p : Data12) (s : State) : (driveEdt p s).phase = s.phase := rfl
@[simp] theorem driveEdt_line (p : Data12) (s : State) : (driveEdt p s).line = s.line := rfl
@[simp] theorem driveEdt_pend (p : Data12) (s : State) : (driveEdt p s).pend = s.pend := rfl
@[simp] theorem driveEdt_lastEvt (p : Data12) (s : State) : (driveEdt p s).lastEvt = s.lastEvt := rfl
@[simp] theorem driveEdt_cmd (p : Data12) (s : State) : (driveEdt p s).cmd = s.cmd := rfl
@[simp] theorem driveEdt_lc (p : Data12) (s : State) : (driveEdt p s).lc = s.lc := rfl
@[simp] theorem driveEdt_tlm (p : Data12) (s : State) : (driveEdt p s).tlm = s.tlm := rfl
@[simp] theorem driveEdt_out (p : Data12) (s : State) : (driveEdt p s).out = { s.out with tlm := { s.out.tlm with payload := p, kind := .edtNotImplemented, exp := 0, mant := 0, periodUs := 0 } } := rfl

end Sys2Proof.Machine
end

