-- ==== Sys2Proof/Laws/Ops.lean ====
section
/-! SUPPORT. For each shared operation that branches: the registers it leaves alone, and one lemma that says everything it can do. -/

namespace Sys2Proof.Machine

/-! ### lookupLane: what it leaves alone -/

@[simp] theorem lookupLane_inputs (p : GcrCode) (s : State) : (lookupLane p s).inputs = s.inputs := by
  unfold lookupLane; dsimp only; split <;> rfl

@[simp] theorem lookupLane_ports (p : GcrCode) (s : State) : (lookupLane p s).ports = s.ports := by
  unfold lookupLane; dsimp only; split <;> rfl

@[simp] theorem lookupLane_cfg (p : GcrCode) (s : State) : (lookupLane p s).cfg = s.cfg := by
  unfold lookupLane; dsimp only; split <;> rfl

@[simp] theorem lookupLane_tim (p : GcrCode) (s : State) : (lookupLane p s).tim = s.tim := by
  unfold lookupLane; dsimp only; split <;> rfl

@[simp] theorem lookupLane_halted (p : GcrCode) (s : State) : (lookupLane p s).halted = s.halted := by
  unfold lookupLane; dsimp only; split <;> rfl

@[simp] theorem lookupLane_sidx (p : GcrCode) (s : State) : (lookupLane p s).sidx = s.sidx := by
  unfold lookupLane; dsimp only; split <;> rfl

@[simp] theorem lookupLane_phase (p : GcrCode) (s : State) : (lookupLane p s).phase = s.phase := by
  unfold lookupLane; dsimp only; split <;> rfl

@[simp] theorem lookupLane_line (p : GcrCode) (s : State) : (lookupLane p s).line = s.line := by
  unfold lookupLane; dsimp only; split <;> rfl

@[simp] theorem lookupLane_pend (p : GcrCode) (s : State) : (lookupLane p s).pend = s.pend := by
  unfold lookupLane; dsimp only; split <;> rfl

@[simp] theorem lookupLane_lastEvt (p : GcrCode) (s : State) : (lookupLane p s).lastEvt = s.lastEvt := by
  unfold lookupLane; dsimp only; split <;> rfl

@[simp] theorem lookupLane_cmd (p : GcrCode) (s : State) : (lookupLane p s).cmd = s.cmd := by
  unfold lookupLane; dsimp only; split <;> rfl

@[simp] theorem lookupLane_lc (p : GcrCode) (s : State) : (lookupLane p s).lc = s.lc := by
  unfold lookupLane; dsimp only; split <;> rfl

@[simp] theorem lookupLane_tlm (p : GcrCode) (s : State) : (lookupLane p s).tlm = s.tlm := by
  unfold lookupLane; dsimp only; split <;> rfl

/-! ### driveGroups: what it leaves alone -/

@[simp] theorem driveGroups_inputs (g0 g1 g2 g3 : GcrCode) (s : State) : (driveGroups g0 g1 g2 g3 s).inputs = s.inputs := by
  unfold driveGroups; dsimp only; split <;> simp

@[simp] theorem driveGroups_ports (g0 g1 g2 g3 : GcrCode) (s : State) : (driveGroups g0 g1 g2 g3 s).ports = s.ports := by
  unfold driveGroups; dsimp only; split <;> simp

@[simp] theorem driveGroups_cfg (g0 g1 g2 g3 : GcrCode) (s : State) : (driveGroups g0 g1 g2 g3 s).cfg = s.cfg := by
  unfold driveGroups; dsimp only; split <;> simp

@[simp] theorem driveGroups_tim (g0 g1 g2 g3 : GcrCode) (s : State) : (driveGroups g0 g1 g2 g3 s).tim = s.tim := by
  unfold driveGroups; dsimp only; split <;> simp

@[simp] theorem driveGroups_halted (g0 g1 g2 g3 : GcrCode) (s : State) : (driveGroups g0 g1 g2 g3 s).halted = s.halted := by
  unfold driveGroups; dsimp only; split <;> simp

@[simp] theorem driveGroups_sidx (g0 g1 g2 g3 : GcrCode) (s : State) : (driveGroups g0 g1 g2 g3 s).sidx = s.sidx := by
  unfold driveGroups; dsimp only; split <;> simp

@[simp] theorem driveGroups_phase (g0 g1 g2 g3 : GcrCode) (s : State) : (driveGroups g0 g1 g2 g3 s).phase = s.phase := by
  unfold driveGroups; dsimp only; split <;> simp

@[simp] theorem driveGroups_line (g0 g1 g2 g3 : GcrCode) (s : State) : (driveGroups g0 g1 g2 g3 s).line = s.line := by
  unfold driveGroups; dsimp only; split <;> simp

@[simp] theorem driveGroups_pend (g0 g1 g2 g3 : GcrCode) (s : State) : (driveGroups g0 g1 g2 g3 s).pend = s.pend := by
  unfold driveGroups; dsimp only; split <;> simp

@[simp] theorem driveGroups_lastEvt (g0 g1 g2 g3 : GcrCode) (s : State) : (driveGroups g0 g1 g2 g3 s).lastEvt = s.lastEvt := by
  unfold driveGroups; dsimp only; split <;> simp

@[simp] theorem driveGroups_cmd (g0 g1 g2 g3 : GcrCode) (s : State) : (driveGroups g0 g1 g2 g3 s).cmd = s.cmd := by
  unfold driveGroups; dsimp only; split <;> simp

@[simp] theorem driveGroups_lc (g0 g1 g2 g3 : GcrCode) (s : State) : (driveGroups g0 g1 g2 g3 s).lc = s.lc := by
  unfold driveGroups; dsimp only; split <;> simp

@[simp] theorem driveGroups_tlm (g0 g1 g2 g3 : GcrCode) (s : State) : (driveGroups g0 g1 g2 g3 s).tlm = s.tlm := by
  unfold driveGroups; dsimp only; split <;> simp

/-! ### driveDecoded: what it leaves alone -/

@[simp] theorem driveDecoded_inputs (p : Data12) (c : Nibble) (s : State) : (driveDecoded p c s).inputs = s.inputs := by
  unfold driveDecoded; dsimp only; split <;> rfl

@[simp] theorem driveDecoded_ports (p : Data12) (c : Nibble) (s : State) : (driveDecoded p c s).ports = s.ports := by
  unfold driveDecoded; dsimp only; split <;> rfl

@[simp] theorem driveDecoded_cfg (p : Data12) (c : Nibble) (s : State) : (driveDecoded p c s).cfg = s.cfg := by
  unfold driveDecoded; dsimp only; split <;> rfl

@[simp] theorem driveDecoded_tim (p : Data12) (c : Nibble) (s : State) : (driveDecoded p c s).tim = s.tim := by
  unfold driveDecoded; dsimp only; split <;> rfl

@[simp] theorem driveDecoded_halted (p : Data12) (c : Nibble) (s : State) : (driveDecoded p c s).halted = s.halted := by
  unfold driveDecoded; dsimp only; split <;> rfl

@[simp] theorem driveDecoded_sidx (p : Data12) (c : Nibble) (s : State) : (driveDecoded p c s).sidx = s.sidx := by
  unfold driveDecoded; dsimp only; split <;> rfl

@[simp] theorem driveDecoded_phase (p : Data12) (c : Nibble) (s : State) : (driveDecoded p c s).phase = s.phase := by
  unfold driveDecoded; dsimp only; split <;> rfl

@[simp] theorem driveDecoded_line (p : Data12) (c : Nibble) (s : State) : (driveDecoded p c s).line = s.line := by
  unfold driveDecoded; dsimp only; split <;> rfl

@[simp] theorem driveDecoded_pend (p : Data12) (c : Nibble) (s : State) : (driveDecoded p c s).pend = s.pend := by
  unfold driveDecoded; dsimp only; split <;> rfl

@[simp] theorem driveDecoded_lastEvt (p : Data12) (c : Nibble) (s : State) : (driveDecoded p c s).lastEvt = s.lastEvt := by
  unfold driveDecoded; dsimp only; split <;> rfl

@[simp] theorem driveDecoded_cmd (p : Data12) (c : Nibble) (s : State) : (driveDecoded p c s).cmd = s.cmd := by
  unfold driveDecoded; dsimp only; split <;> rfl

@[simp] theorem driveDecoded_lc (p : Data12) (c : Nibble) (s : State) : (driveDecoded p c s).lc = s.lc := by
  unfold driveDecoded; dsimp only; split <;> rfl

@[simp] theorem driveDecoded_tlm (p : Data12) (c : Nibble) (s : State) : (driveDecoded p c s).tlm = s.tlm := by
  unfold driveDecoded; dsimp only; split <;> rfl

/-! ### interpretPayload: what it leaves alone -/

@[simp] theorem interpretPayload_inputs (p : Data12) (s : State) : (interpretPayload p s).inputs = s.inputs := by
  unfold interpretPayload; split <;> rfl

@[simp] theorem interpretPayload_ports (p : Data12) (s : State) : (interpretPayload p s).ports = s.ports := by
  unfold interpretPayload; split <;> rfl

@[simp] theorem interpretPayload_cfg (p : Data12) (s : State) : (interpretPayload p s).cfg = s.cfg := by
  unfold interpretPayload; split <;> rfl

@[simp] theorem interpretPayload_tim (p : Data12) (s : State) : (interpretPayload p s).tim = s.tim := by
  unfold interpretPayload; split <;> rfl

@[simp] theorem interpretPayload_halted (p : Data12) (s : State) : (interpretPayload p s).halted = s.halted := by
  unfold interpretPayload; split <;> rfl

@[simp] theorem interpretPayload_sidx (p : Data12) (s : State) : (interpretPayload p s).sidx = s.sidx := by
  unfold interpretPayload; split <;> rfl

@[simp] theorem interpretPayload_phase (p : Data12) (s : State) : (interpretPayload p s).phase = s.phase := by
  unfold interpretPayload; split <;> rfl

@[simp] theorem interpretPayload_line (p : Data12) (s : State) : (interpretPayload p s).line = s.line := by
  unfold interpretPayload; split <;> rfl

@[simp] theorem interpretPayload_pend (p : Data12) (s : State) : (interpretPayload p s).pend = s.pend := by
  unfold interpretPayload; split <;> rfl

@[simp] theorem interpretPayload_lastEvt (p : Data12) (s : State) : (interpretPayload p s).lastEvt = s.lastEvt := by
  unfold interpretPayload; split <;> rfl

@[simp] theorem interpretPayload_cmd (p : Data12) (s : State) : (interpretPayload p s).cmd = s.cmd := by
  unfold interpretPayload; split <;> rfl

@[simp] theorem interpretPayload_lc (p : Data12) (s : State) : (interpretPayload p s).lc = s.lc := by
  unfold interpretPayload; split <;> rfl

@[simp] theorem interpretPayload_tlm (p : Data12) (s : State) : (interpretPayload p s).tlm = s.tlm := by
  unfold interpretPayload; split <;> rfl

/-! ### decodeFrame: what it leaves alone -/

@[simp] theorem decodeFrame_inputs (raw : Raw21) (s : State) : (decodeFrame raw s).inputs = s.inputs := by
  unfold decodeFrame; dsimp only; split <;> simp

@[simp] theorem decodeFrame_ports (raw : Raw21) (s : State) : (decodeFrame raw s).ports = s.ports := by
  unfold decodeFrame; dsimp only; split <;> simp

@[simp] theorem decodeFrame_cfg (raw : Raw21) (s : State) : (decodeFrame raw s).cfg = s.cfg := by
  unfold decodeFrame; dsimp only; split <;> simp

@[simp] theorem decodeFrame_tim (raw : Raw21) (s : State) : (decodeFrame raw s).tim = s.tim := by
  unfold decodeFrame; dsimp only; split <;> simp

@[simp] theorem decodeFrame_halted (raw : Raw21) (s : State) : (decodeFrame raw s).halted = s.halted := by
  unfold decodeFrame; dsimp only; split <;> simp

@[simp] theorem decodeFrame_sidx (raw : Raw21) (s : State) : (decodeFrame raw s).sidx = s.sidx := by
  unfold decodeFrame; dsimp only; split <;> simp

@[simp] theorem decodeFrame_phase (raw : Raw21) (s : State) : (decodeFrame raw s).phase = s.phase := by
  unfold decodeFrame; dsimp only; split <;> simp

@[simp] theorem decodeFrame_line (raw : Raw21) (s : State) : (decodeFrame raw s).line = s.line := by
  unfold decodeFrame; dsimp only; split <;> simp

@[simp] theorem decodeFrame_pend (raw : Raw21) (s : State) : (decodeFrame raw s).pend = s.pend := by
  unfold decodeFrame; dsimp only; split <;> simp

@[simp] theorem decodeFrame_lastEvt (raw : Raw21) (s : State) : (decodeFrame raw s).lastEvt = s.lastEvt := by
  unfold decodeFrame; dsimp only; split <;> simp

@[simp] theorem decodeFrame_cmd (raw : Raw21) (s : State) : (decodeFrame raw s).cmd = s.cmd := by
  unfold decodeFrame; dsimp only; split <;> simp

@[simp] theorem decodeFrame_lc (raw : Raw21) (s : State) : (decodeFrame raw s).lc = s.lc := by
  unfold decodeFrame; dsimp only; split <;> simp

@[simp] theorem decodeFrame_tlm (raw : Raw21) (s : State) : (decodeFrame raw s).tlm = s.tlm := by
  unfold decodeFrame; dsimp only; split <;> simp

/-! ### tlmFinalize: what it leaves alone -/

@[simp] theorem tlmFinalize_inputs (i : Nat) (s : State) : (tlmFinalize i s).inputs = s.inputs := by
  simp [tlmFinalize]

@[simp] theorem tlmFinalize_ports (i : Nat) (s : State) : (tlmFinalize i s).ports = s.ports := by
  simp [tlmFinalize]

@[simp] theorem tlmFinalize_cfg (i : Nat) (s : State) : (tlmFinalize i s).cfg = s.cfg := by
  simp [tlmFinalize]

@[simp] theorem tlmFinalize_tim (i : Nat) (s : State) : (tlmFinalize i s).tim = s.tim := by
  simp [tlmFinalize]

@[simp] theorem tlmFinalize_halted (i : Nat) (s : State) : (tlmFinalize i s).halted = s.halted := by
  simp [tlmFinalize]

@[simp] theorem tlmFinalize_sidx (i : Nat) (s : State) : (tlmFinalize i s).sidx = s.sidx := by
  simp [tlmFinalize]

@[simp] theorem tlmFinalize_phase (i : Nat) (s : State) : (tlmFinalize i s).phase = s.phase := by
  simp [tlmFinalize]

@[simp] theorem tlmFinalize_line (i : Nat) (s : State) : (tlmFinalize i s).line = s.line := by
  simp [tlmFinalize]

@[simp] theorem tlmFinalize_pend (i : Nat) (s : State) : (tlmFinalize i s).pend = s.pend := by
  simp [tlmFinalize]

@[simp] theorem tlmFinalize_lastEvt (i : Nat) (s : State) : (tlmFinalize i s).lastEvt = s.lastEvt := by
  simp [tlmFinalize]

@[simp] theorem tlmFinalize_cmd (i : Nat) (s : State) : (tlmFinalize i s).cmd = s.cmd := by
  simp [tlmFinalize]

@[simp] theorem tlmFinalize_lc (i : Nat) (s : State) : (tlmFinalize i s).lc = s.lc := by
  simp [tlmFinalize]

@[simp] theorem tlmFinalize_tlm (i : Nat) (s : State) : (tlmFinalize i s).tlm = s.tlm := by
  simp [tlmFinalize]

/-! ### emitCmdFrame: what it leaves alone -/

@[simp] theorem emitCmdFrame_inputs (v : BitVec 11) (t : BitVec 1) (c : Nibble) (d : Data12) (s : State) : (emitCmdFrame v t c d s).inputs = s.inputs := by
  unfold emitCmdFrame; dsimp only; split <;> rfl

@[simp] theorem emitCmdFrame_ports (v : BitVec 11) (t : BitVec 1) (c : Nibble) (d : Data12) (s : State) : (emitCmdFrame v t c d s).ports = s.ports := by
  unfold emitCmdFrame; dsimp only; split <;> rfl

@[simp] theorem emitCmdFrame_cfg (v : BitVec 11) (t : BitVec 1) (c : Nibble) (d : Data12) (s : State) : (emitCmdFrame v t c d s).cfg = s.cfg := by
  unfold emitCmdFrame; dsimp only; split <;> rfl

@[simp] theorem emitCmdFrame_tim (v : BitVec 11) (t : BitVec 1) (c : Nibble) (d : Data12) (s : State) : (emitCmdFrame v t c d s).tim = s.tim := by
  unfold emitCmdFrame; dsimp only; split <;> rfl

@[simp] theorem emitCmdFrame_halted (v : BitVec 11) (t : BitVec 1) (c : Nibble) (d : Data12) (s : State) : (emitCmdFrame v t c d s).halted = s.halted := by
  unfold emitCmdFrame; dsimp only; split <;> rfl

@[simp] theorem emitCmdFrame_sidx (v : BitVec 11) (t : BitVec 1) (c : Nibble) (d : Data12) (s : State) : (emitCmdFrame v t c d s).sidx = s.sidx := by
  unfold emitCmdFrame; dsimp only; split <;> rfl

@[simp] theorem emitCmdFrame_phase (v : BitVec 11) (t : BitVec 1) (c : Nibble) (d : Data12) (s : State) : (emitCmdFrame v t c d s).phase = s.phase := by
  unfold emitCmdFrame; dsimp only; split <;> rfl

@[simp] theorem emitCmdFrame_line (v : BitVec 11) (t : BitVec 1) (c : Nibble) (d : Data12) (s : State) : (emitCmdFrame v t c d s).line = s.line := by
  unfold emitCmdFrame; dsimp only; split <;> rfl

@[simp] theorem emitCmdFrame_pend (v : BitVec 11) (t : BitVec 1) (c : Nibble) (d : Data12) (s : State) : (emitCmdFrame v t c d s).pend = s.pend := by
  unfold emitCmdFrame; dsimp only; split <;> rfl

@[simp] theorem emitCmdFrame_lastEvt (v : BitVec 11) (t : BitVec 1) (c : Nibble) (d : Data12) (s : State) : (emitCmdFrame v t c d s).lastEvt = s.lastEvt := by
  unfold emitCmdFrame; dsimp only; split <;> rfl

@[simp] theorem emitCmdFrame_cmd (v : BitVec 11) (t : BitVec 1) (c : Nibble) (d : Data12) (s : State) : (emitCmdFrame v t c d s).cmd = s.cmd := by
  unfold emitCmdFrame; dsimp only; split <;> rfl

@[simp] theorem emitCmdFrame_lc (v : BitVec 11) (t : BitVec 1) (c : Nibble) (d : Data12) (s : State) : (emitCmdFrame v t c d s).lc = s.lc := by
  unfold emitCmdFrame; dsimp only; split <;> rfl

@[simp] theorem emitCmdFrame_tlm (v : BitVec 11) (t : BitVec 1) (c : Nibble) (d : Data12) (s : State) : (emitCmdFrame v t c d s).tlm = s.tlm := by
  unfold emitCmdFrame; dsimp only; split <;> rfl

/-! ### cmdFinalize: what it leaves alone -/

@[simp] theorem cmdFinalize_inputs (s : State) : (cmdFinalize s).inputs = s.inputs := by
  unfold cmdFinalize; split <;> simp

@[simp] theorem cmdFinalize_ports (s : State) : (cmdFinalize s).ports = s.ports := by
  unfold cmdFinalize; split <;> simp

@[simp] theorem cmdFinalize_cfg (s : State) : (cmdFinalize s).cfg = s.cfg := by
  unfold cmdFinalize; split <;> simp

@[simp] theorem cmdFinalize_tim (s : State) : (cmdFinalize s).tim = s.tim := by
  unfold cmdFinalize; split <;> simp

@[simp] theorem cmdFinalize_halted (s : State) : (cmdFinalize s).halted = s.halted := by
  unfold cmdFinalize; split <;> simp

@[simp] theorem cmdFinalize_sidx (s : State) : (cmdFinalize s).sidx = s.sidx := by
  unfold cmdFinalize; split <;> simp

@[simp] theorem cmdFinalize_phase (s : State) : (cmdFinalize s).phase = s.phase := by
  unfold cmdFinalize; split <;> simp

@[simp] theorem cmdFinalize_line (s : State) : (cmdFinalize s).line = s.line := by
  unfold cmdFinalize; split <;> simp

@[simp] theorem cmdFinalize_pend (s : State) : (cmdFinalize s).pend = s.pend := by
  unfold cmdFinalize; split <;> simp

@[simp] theorem cmdFinalize_lastEvt (s : State) : (cmdFinalize s).lastEvt = s.lastEvt := by
  unfold cmdFinalize; split <;> simp

@[simp] theorem cmdFinalize_cmd (s : State) : (cmdFinalize s).cmd = s.cmd := by
  unfold cmdFinalize; split <;> simp

@[simp] theorem cmdFinalize_lc (s : State) : (cmdFinalize s).lc = s.lc := by
  unfold cmdFinalize; split <;> simp

@[simp] theorem cmdFinalize_tlm (s : State) : (cmdFinalize s).tlm = s.tlm := by
  unfold cmdFinalize; split <;> simp

/-! ### flushPending: what it leaves alone -/

@[simp] theorem flushPending_inputs (e : Nat) (s : State) : (flushPending e s).inputs = s.inputs := by
  unfold flushPending; split <;> simp

@[simp] theorem flushPending_ports (e : Nat) (s : State) : (flushPending e s).ports = s.ports := by
  unfold flushPending; split <;> simp

@[simp] theorem flushPending_cfg (e : Nat) (s : State) : (flushPending e s).cfg = s.cfg := by
  unfold flushPending; split <;> simp

@[simp] theorem flushPending_tim (e : Nat) (s : State) : (flushPending e s).tim = s.tim := by
  unfold flushPending; split <;> simp

@[simp] theorem flushPending_halted (e : Nat) (s : State) : (flushPending e s).halted = s.halted := by
  unfold flushPending; split <;> simp

@[simp] theorem flushPending_sidx (e : Nat) (s : State) : (flushPending e s).sidx = s.sidx := by
  unfold flushPending; split <;> simp

@[simp] theorem flushPending_phase (e : Nat) (s : State) : (flushPending e s).phase = s.phase := by
  unfold flushPending; split <;> simp

@[simp] theorem flushPending_line (e : Nat) (s : State) : (flushPending e s).line = s.line := by
  unfold flushPending; split <;> simp

@[simp] theorem flushPending_pend (e : Nat) (s : State) : (flushPending e s).pend = s.pend := by
  unfold flushPending; split <;> simp

@[simp] theorem flushPending_lastEvt (e : Nat) (s : State) : (flushPending e s).lastEvt = s.lastEvt := by
  unfold flushPending; split <;> simp

@[simp] theorem flushPending_lc (e : Nat) (s : State) : (flushPending e s).lc = s.lc := by
  unfold flushPending; split <;> simp

@[simp] theorem flushPending_tlm (e : Nat) (s : State) : (flushPending e s).tlm = s.tlm := by
  unfold flushPending; split <;> simp

/-! ### closeFrame: what it leaves alone -/

@[simp] theorem closeFrame_inputs (r : CmdResult) (s : State) : (closeFrame r s).inputs = s.inputs := by
  rcases r with _ | (_ | _) <;> rfl

@[simp] theorem closeFrame_ports (r : CmdResult) (s : State) : (closeFrame r s).ports = s.ports := by
  rcases r with _ | (_ | _) <;> rfl

@[simp] theorem closeFrame_cfg (r : CmdResult) (s : State) : (closeFrame r s).cfg = s.cfg := by
  rcases r with _ | (_ | _) <;> rfl

@[simp] theorem closeFrame_tim (r : CmdResult) (s : State) : (closeFrame r s).tim = s.tim := by
  rcases r with _ | (_ | _) <;> rfl

@[simp] theorem closeFrame_halted (r : CmdResult) (s : State) : (closeFrame r s).halted = s.halted := by
  rcases r with _ | (_ | _) <;> rfl

@[simp] theorem closeFrame_sidx (r : CmdResult) (s : State) : (closeFrame r s).sidx = s.sidx := by
  rcases r with _ | (_ | _) <;> rfl

@[simp] theorem closeFrame_line (r : CmdResult) (s : State) : (closeFrame r s).line = s.line := by
  rcases r with _ | (_ | _) <;> rfl

@[simp] theorem closeFrame_pend (r : CmdResult) (s : State) : (closeFrame r s).pend = s.pend := by
  rcases r with _ | (_ | _) <;> rfl

@[simp] theorem closeFrame_lastEvt (r : CmdResult) (s : State) : (closeFrame r s).lastEvt = s.lastEvt := by
  rcases r with _ | (_ | _) <;> rfl

@[simp] theorem closeFrame_cmd (r : CmdResult) (s : State) : (closeFrame r s).cmd = s.cmd := by
  rcases r with _ | (_ | _) <;> rfl

@[simp] theorem closeFrame_tlm (r : CmdResult) (s : State) : (closeFrame r s).tlm = s.tlm := by
  rcases r with _ | (_ | _) <;> rfl

@[simp] theorem closeFrame_out (r : CmdResult) (s : State) : (closeFrame r s).out = s.out := by
  rcases r with _ | (_ | _) <;> rfl

/-! ### What each can do -/

/-- R244, R250: the flush appends and emits exactly when the pending bit is fully timed. -/
theorem flushPending_cases (e : Nat) (s : State) :
    ((s.pend.psV = true ∧ s.pend.pmV = true) ∧
      flushPending e s =
        cmdAppend (classifyCommandBit s.pend.ps s.pend.pm e) e (emitBit (pendingBit e s) s)) ∨
    (¬(s.pend.psV = true ∧ s.pend.pmV = true) ∧ flushPending e s = s) := by
  unfold flushPending
  by_cases h : (s.pend.psV && s.pend.pmV) = true
  · exact .inl ⟨by simpa using h, by rw [if_pos h]⟩
  · exact .inr ⟨by simpa using h, by rw [if_neg h]⟩

/-- R250, R253: what closing a frame does to the phase. -/
theorem closeFrame_phase (r : CmdResult) (s : State) :
    (closeFrame r s).phase =
      if r = .complete true ∧ s.cfg.bidir = true then .awaitTlm else .awaitCmd := by
  rcases r with _ | (_ | _) <;> simp [closeFrame]

/-- R250: only a checksum-valid frame is remembered, with the end of its last bit. -/
theorem closeFrame_lc (r : CmdResult) (s : State) :
    (closeFrame r s).lc = if r = .complete true then { v := true, endIdx := s.cmd.lastEnd } else s.lc := by
  rcases r with _ | (_ | _) <;> simp [closeFrame]

/-- R176: a complete frame drives its record, and its error exactly when the checksum is wrong. -/
theorem emitCmdFrame_out (v : BitVec 11) (t : BitVec 1) (c : Nibble) (d : Data12) (s : State) :
    (emitCmdFrame v t c d s).out =
      { s.out with
        cmd := cmdRecordOf v t c d s
        errCode := if validateChecksum d c s.cfg.bidir then s.out.errCode else .checksumMismatch } := by
  unfold emitCmdFrame; dsimp only; split <;> simp_all

/-- R176, R305: an incomplete frame drives nothing; a complete one is the frame of the accumulator's word. -/
theorem cmdFinalize_cases (s : State) :
    (s.cmd.cnt < Config.cmdFrameBits ∧ cmdResult s = .incomplete ∧ cmdFinalize s = s) ∨
    (Config.cmdFrameBits ≤ s.cmd.cnt ∧
      cmdResult s = .complete (validateChecksum (cmdData12 s.cmd.sr) (cmdCrc s.cmd.sr) s.cfg.bidir) ∧
      cmdFinalize s = emitCmdFrame (cmdValue s.cmd.sr) (cmdTreq s.cmd.sr) (cmdCrc s.cmd.sr) (cmdData12 s.cmd.sr) s) := by
  unfold cmdResult cmdFinalize
  by_cases h : s.cmd.cnt < Config.cmdFrameBits
  · exact .inl ⟨h, by rw [if_pos h], by rw [if_pos h]⟩
  · exact .inr ⟨Nat.le_of_not_lt h, by rw [if_neg h], by rw [if_neg h]⟩

/-- R212: a valid group adds its nibble as the next lane and changes nothing else. -/
theorem lookupLane_valid {p : GcrCode} {n : Nibble} (h : gcrLookup p = some n) (s : State) :
    (lookupLane p s).out =
      { s.out with wires := { s.out.wires with lanes := s.out.wires.lanes ++ [some n] } } := by
  simp [lookupLane, h]

/-- R213: an invalid group adds an invalid lane; the first of a frame is also named and raises GcrDecodeError. -/
theorem lookupLane_invalid {p : GcrCode} (h : gcrLookup p = none) (s : State) :
    (lookupLane p s).out =
      if s.out.wires.lanes.all Option.isSome then
        { s.out with
          wires := { s.out.wires with lanes := s.out.wires.lanes ++ [none] }
          tlm := { s.out.tlm with
            gcrOk := false, badGroup := BitVec.ofNat 2 s.out.wires.lanes.length, badPattern := p }
          errCode := .gcrDecodeError }
      else { s.out with wires := { s.out.wires with lanes := s.out.wires.lanes ++ [none] } } := by
  cases ha : s.out.wires.lanes.all Option.isSome <;> simp only [lookupLane, h, ha] <;> rfl

/-- R216: four valid groups give the decoded word. -/
theorem driveGroups_valid {g0 g1 g2 g3 : GcrCode} {n0 n1 n2 n3 : Nibble} (h0 : gcrLookup g0 = some n0)
    (h1 : gcrLookup g1 = some n1) (h2 : gcrLookup g2 = some n2) (h3 : gcrLookup g3 = some n3) (s : State) :
    (driveGroups g0 g1 g2 g3 s).out =
      { s.out with
        tlm := { s.out.tlm with gcrOk := true, badGroup := 0, badPattern := 0, decoded := n0 ++ n1 ++ n2 ++ n3 }
        wires := { s.out.wires with lanes := [some n0, some n1, some n2, some n3] } } := by
  simp [driveGroups, lookupLane_valid h0, lookupLane_valid h1, lookupLane_valid h2, lookupLane_valid h3, concatLanes]

/-- The number and the pattern of the first invalid group (R213), with the place of the first group of the list. -/
def firstInvalid (j : Nat) : List GcrCode → Option (Nat × GcrCode)
  | [] => none
  | p :: rest => if (gcrLookup p).isSome then firstInvalid (j + 1) rest else some (j, p)

/-- R216, R218: a frame with an invalid group names the first one, decodes nothing and raises GcrDecodeError. -/
theorem driveGroups_invalid {g0 g1 g2 g3 p : GcrCode} {j : Nat} (h : firstInvalid 0 [g0, g1, g2, g3] = some (j, p))
    (s : State) :
    (driveGroups g0 g1 g2 g3 s).out =
      { s.out with
        tlm := clearDecoded { s.out.tlm with gcrOk := false, badGroup := BitVec.ofNat 2 j, badPattern := p }
        errCode := .gcrDecodeError
        wires := { s.out.wires with lanes := [gcrLookup g0, gcrLookup g1, gcrLookup g2, gcrLookup g3] } } := by
  rcases h0 : gcrLookup g0 with _ | n0 <;> rcases h1 : gcrLookup g1 with _ | n1 <;>
    rcases h2 : gcrLookup g2 with _ | n2 <;> rcases h3 : gcrLookup g3 with _ | n3 <;>
    simp [firstInvalid, h0, h1, h2, h3] at h <;>
    obtain ⟨rfl, rfl⟩ := h <;>
    simp [driveGroups, lookupLane, h0, h1, h2, h3, concatLanes, clearDecoded]

/-- Either every group is valid or one is the first that is not. -/
theorem groups_cases (g0 g1 g2 g3 : GcrCode) :
    (∃ n0 n1 n2 n3, gcrLookup g0 = some n0 ∧ gcrLookup g1 = some n1 ∧ gcrLookup g2 = some n2 ∧ gcrLookup g3 = some n3) ∨
    (∃ j p, j < 4 ∧ firstInvalid 0 [g0, g1, g2, g3] = some (j, p)) := by
  rcases h0 : gcrLookup g0 with _ | n0 <;> rcases h1 : gcrLookup g1 with _ | n1 <;>
    rcases h2 : gcrLookup g2 with _ | n2 <;> rcases h3 : gcrLookup g3 with _ | n3 <;>
    simp [firstInvalid, h0, h1, h2, h3]

/-- R217: the payload and checksum fields, and the error exactly when the checksum is wrong. -/
theorem driveDecoded_out (p : Data12) (c : Nibble) (s : State) :
    (driveDecoded p c s).out =
      { s.out with
        tlm := { s.out.tlm with
          decoded := decodedOf p c, payload := p, crcRx := c, crcCalc := computeChecksum p s.cfg.bidir,
          crcOk := validateChecksum p c s.cfg.bidir }
        errCode := if validateChecksum p c s.cfg.bidir then s.out.errCode else .checksumMismatch } := by
  unfold driveDecoded; dsimp only; split <;> simp_all

/-- R158, R160: with one level sample exactly one of the two references matches: the bit is the level, well timed. -/
@[simp] theorem classifyTelemetryBit_level (level : Bool) : classifyTelemetryBit (!level) level = (level, false) := by
  cases level <;> rfl

/-- R213, R214: a lookup drives nothing but the lanes, the three fields that name an invalid group, and the error. -/
theorem lookupLane_kept (p : GcrCode) (s : State) :
    (lookupLane p s).out.bit = s.out.bit ∧ (lookupLane p s).out.cmd = s.out.cmd ∧
    (lookupLane p s).out.evTlmExpired = s.out.evTlmExpired ∧ (lookupLane p s).out.tlm.v = s.out.tlm.v ∧
    (lookupLane p s).out.tlm.startIdx = s.out.tlm.startIdx ∧ (lookupLane p s).out.tlm.endIdx = s.out.tlm.endIdx := by
  unfold lookupLane; dsimp only; split <;> simp

/-- R216: the groups leave the header of the record and the other records alone. -/
theorem driveGroups_kept (g0 g1 g2 g3 : GcrCode) (s : State) :
    (driveGroups g0 g1 g2 g3 s).out.bit = s.out.bit ∧ (driveGroups g0 g1 g2 g3 s).out.cmd = s.out.cmd ∧
    (driveGroups g0 g1 g2 g3 s).out.evTlmExpired = s.out.evTlmExpired ∧
    (driveGroups g0 g1 g2 g3 s).out.tlm.v = s.out.tlm.v ∧
    (driveGroups g0 g1 g2 g3 s).out.tlm.startIdx = s.out.tlm.startIdx ∧
    (driveGroups g0 g1 g2 g3 s).out.tlm.endIdx = s.out.tlm.endIdx := by
  unfold driveGroups; dsimp only; split <;> simp [lookupLane_kept, clearDecoded]

/-- R216: the whole decode leaves the header of the record and the other records alone. -/
theorem decodeFrame_kept (raw : Raw21) (s : State) :
    (decodeFrame raw s).out.bit = s.out.bit ∧ (decodeFrame raw s).out.cmd = s.out.cmd ∧
    (decodeFrame raw s).out.evTlmExpired = s.out.evTlmExpired ∧ (decodeFrame raw s).out.tlm.v = s.out.tlm.v ∧
    (decodeFrame raw s).out.tlm.startIdx = s.out.tlm.startIdx ∧ (decodeFrame raw s).out.tlm.endIdx = s.out.tlm.endIdx := by
  unfold decodeFrame; dsimp only; split
  · unfold interpretPayload; split <;> simp [driveDecoded_out, driveGroups_kept, driveErpm, driveEdt, driveRaw]
  · simp [driveGroups_kept, driveRaw]

/-- R240: a step operation is its own effect between the clearing of the outputs and the epilogue and status. -/
theorem runOperation_eq (body : State → State) (s : State) :
    runOperation body s = driveStatus (epilogue (body (beginStep s))) := rfl

/-- R340, R341: a reset depends on the ports and the moves not yet taken, and on nothing else. -/
theorem takeReset_eq (sel : BitVec 2) (s : State) :
    takeReset sel s =
      State.afterReset { s.ports with cfg := { s.ports.cfg with baudSel := sel } } s.inputs := rfl

end Sys2Proof.Machine
end

