-- ==== Sys2Proof/Laws/PerInstr.lean ====
section
/-! SUPPORT. Facts of every instruction as syntax, one lemma per constructor: its encoding fits its format's width. -/

namespace Sys2Proof.Laws

/-- The encoding of an instruction has no bit at or above its format's width (R90, R100, R103 to R110). -/
def EncodingFits.Statement (i : Instr) : Prop := wordFits i.format i.word = true

theorem EncodingFits.halt : EncodingFits.Statement .halt := rfl
theorem EncodingFits.cmdStartEdge : EncodingFits.Statement .cmdStartEdge := rfl
theorem EncodingFits.cmdEndEdge : EncodingFits.Statement .cmdEndEdge := rfl
theorem EncodingFits.cmdTimeout : EncodingFits.Statement .cmdTimeout := rfl
theorem EncodingFits.cmdIdle : EncodingFits.Statement .cmdIdle := rfl
theorem EncodingFits.tlmExpire : EncodingFits.Statement .tlmExpire := rfl
theorem EncodingFits.tlmStart : EncodingFits.Statement .tlmStart := rfl
theorem EncodingFits.tlmWait : EncodingFits.Statement .tlmWait := rfl
theorem EncodingFits.tlmSample : EncodingFits.Statement .tlmSample := rfl
theorem EncodingFits.tlmFinish : EncodingFits.Statement .tlmFinish := rfl
theorem EncodingFits.tlmSkip : EncodingFits.Statement .tlmSkip := rfl
theorem EncodingFits.gcr00000Invalid : EncodingFits.Statement .gcr00000Invalid := rfl
theorem EncodingFits.gcr00001Invalid : EncodingFits.Statement .gcr00001Invalid := rfl
theorem EncodingFits.gcr00010Invalid : EncodingFits.Statement .gcr00010Invalid := rfl
theorem EncodingFits.gcr00011Invalid : EncodingFits.Statement .gcr00011Invalid := rfl
theorem EncodingFits.gcr00100Invalid : EncodingFits.Statement .gcr00100Invalid := rfl
theorem EncodingFits.gcr00101Invalid : EncodingFits.Statement .gcr00101Invalid := rfl
theorem EncodingFits.gcr00110Invalid : EncodingFits.Statement .gcr00110Invalid := rfl
theorem EncodingFits.gcr00111Invalid : EncodingFits.Statement .gcr00111Invalid := rfl
theorem EncodingFits.gcr01000Invalid : EncodingFits.Statement .gcr01000Invalid := rfl
theorem EncodingFits.gcr01001 : EncodingFits.Statement .gcr01001 := rfl
theorem EncodingFits.gcr01010 : EncodingFits.Statement .gcr01010 := rfl
theorem EncodingFits.gcr01011 : EncodingFits.Statement .gcr01011 := rfl
theorem EncodingFits.gcr01100Invalid : EncodingFits.Statement .gcr01100Invalid := rfl
theorem EncodingFits.gcr01101 : EncodingFits.Statement .gcr01101 := rfl
theorem EncodingFits.gcr01110 : EncodingFits.Statement .gcr01110 := rfl
theorem EncodingFits.gcr01111 : EncodingFits.Statement .gcr01111 := rfl
theorem EncodingFits.gcr10000Invalid : EncodingFits.Statement .gcr10000Invalid := rfl
theorem EncodingFits.gcr10001Invalid : EncodingFits.Statement .gcr10001Invalid := rfl
theorem EncodingFits.gcr10010 : EncodingFits.Statement .gcr10010 := rfl
theorem EncodingFits.gcr10011 : EncodingFits.Statement .gcr10011 := rfl
theorem EncodingFits.gcr10100Invalid : EncodingFits.Statement .gcr10100Invalid := rfl
theorem EncodingFits.gcr10101 : EncodingFits.Statement .gcr10101 := rfl
theorem EncodingFits.gcr10110 : EncodingFits.Statement .gcr10110 := rfl
theorem EncodingFits.gcr10111 : EncodingFits.Statement .gcr10111 := rfl
theorem EncodingFits.gcr11000Invalid : EncodingFits.Statement .gcr11000Invalid := rfl
theorem EncodingFits.gcr11001 : EncodingFits.Statement .gcr11001 := rfl
theorem EncodingFits.gcr11010 : EncodingFits.Statement .gcr11010 := rfl
theorem EncodingFits.gcr11011 : EncodingFits.Statement .gcr11011 := rfl
theorem EncodingFits.gcr11100Invalid : EncodingFits.Statement .gcr11100Invalid := rfl
theorem EncodingFits.gcr11101 : EncodingFits.Statement .gcr11101 := rfl
theorem EncodingFits.gcr11110 : EncodingFits.Statement .gcr11110 := rfl
theorem EncodingFits.gcr11111Invalid : EncodingFits.Statement .gcr11111Invalid := rfl
theorem EncodingFits.baud150000 : EncodingFits.Statement .baud150000 := rfl
theorem EncodingFits.baud300000 : EncodingFits.Statement .baud300000 := rfl
theorem EncodingFits.baud600000 : EncodingFits.Statement .baud600000 := rfl
theorem EncodingFits.baud1200000 : EncodingFits.Statement .baud1200000 := rfl

theorem EncodingFits.cmdFrame (value : BitVec 11) (treq : BitVec 1) (crc : Nibble) (data12 : Data12) : EncodingFits.Statement (.cmdFrame value treq crc data12) :=
  decide_eq_true (Machine.cmdWordOf value treq crc).isLt

theorem EncodingFits.tlmRaw (start : BitVec 1) (x : Data20) : EncodingFits.Statement (.tlmRaw start x) :=
  decide_eq_true (Machine.rawOf start x).isLt

theorem EncodingFits.tlmGcrGroups (g0 g1 g2 g3 : GcrCode) : EncodingFits.Statement (.tlmGcrGroups g0 g1 g2 g3) :=
  decide_eq_true (Machine.groupsOf g0 g1 g2 g3).isLt

theorem EncodingFits.tlmDecoded (payload : Data12) (crc : Nibble) : EncodingFits.Statement (.tlmDecoded payload crc) :=
  decide_eq_true (Machine.decodedOf payload crc).isLt

theorem EncodingFits.tlmErpm (e : BitVec 3) (m : BitVec 9) : EncodingFits.Statement (.tlmErpm e m) :=
  decide_eq_true (Machine.erpmOf e m).isLt

theorem EncodingFits.tlmEdt (payload : Data12) : EncodingFits.Statement (.tlmEdt payload) :=
  decide_eq_true (payload).isLt

end Sys2Proof.Laws
end

