-- ==== Sys2Proof/Laws/Select.lean ====
section
/-! SUPPORT. Which step operation a step-select word selects, read from the word's fields (R91). -/

namespace Sys2Proof.Machine

/-- R91 by the fields: the operation of a command-phase word. -/
theorem decodeStep_command (p0 se ee f t full : Bool) :
    decodeStep (packSelect false (if p0 then 1 else 0) se ee f t full) =
      if se then .cmdStartEdge else if ee then .cmdEndEdge else if t then .cmdTimeout else .cmdIdle := by
  revert p0 se ee f t full; decide

/-- R91 by the fields: the operation of a word in AWAIT_TLM. -/
theorem decodeStep_awaitTlm (se ee f t full : Bool) :
    decodeStep (packSelect false 2 se ee f t full) =
      if t then .tlmExpire else if f then .tlmStart else .tlmWait := by
  revert se ee f t full; decide

/-- R91 by the fields: the operation of a word in RECV_TLM. -/
theorem decodeStep_recvTlm (se ee f t full : Bool) :
    decodeStep (packSelect false 3 se ee f t full) =
      if t then (if full then .tlmFinish else .tlmSample) else .tlmSkip := by
  revert se ee f t full; decide

/-- R91 by the fields: a halted block performs HALT. -/
theorem decodeStep_halted (ph : BitVec 2) (se ee f t full : Bool) :
    decodeStep (packSelect true ph se ee f t full) = .halt := by
  revert ph se ee f t full; decide

end Sys2Proof.Machine
end

