-- ==== Sys2Proof/Laws/Step.lean ====
section
/-! SUPPORT. What one step can do: the inversion of `step` that proofs over all states start from, and that no meaning stops. -/

namespace Sys2Proof.Machine

/-- A state with a sample of the given level presented (R20, R82). -/
abbrev withSample (din : Bool) (rest : List HostMove) (s : State) : State :=
  { s with inputs := rest, ports := { s.ports with rst := false, din := din } }

/-- A step that gives a next state is a stopped host, a reset, HALT, or a step operation below the index limit. -/
theorem step_next_cases {s t : State} (h : step s = .next t) :
    (s.inputs = [] ∧ t = s) ∨
    (∃ cfg rest, s.inputs = .reset cfg :: rest ∧
      t = State.afterReset { s.ports with rst := true, cfg := cfg } rest) ∨
    (∃ din rest, s.inputs = .sample din :: rest ∧ (s.halted = true ∨ s.sidx < Config.sampleLimit) ∧
      exec (decodeStep (stepSelect (withSample din rest s))) (withSample din rest s) = .next t) := by
  rcases hin : s.inputs with _ | ⟨m, rest⟩
  · left; simpa [step, takeMove, hin, eq_comm] using h
  · rcases m with cfg | din
    · right; left
      refine ⟨cfg, rest, rfl, ?_⟩
      have hb : exec (decodeBaud cfg.baudSel)
          { s with inputs := rest, ports := { s.ports with rst := true, cfg := cfg } } = .next t := by
        simpa [step, takeMove, hin, streamExhausted, selectedInstr] using h
      have hsel : ∀ b : BitVec 2, ∀ p : State, exec (decodeBaud b) p = .next (takeReset b p) := by
        intro b p
        have hb : b = 0 ∨ b = 1 ∨ b = 2 ∨ b = 3 := by revert b; decide
        rcases hb with rfl | rfl | rfl | rfl <;> rfl
      rw [hsel] at hb
      simpa [takeReset_eq, eq_comm] using hb
    · right; right
      refine ⟨din, rest, rfl, ?_⟩
      by_cases hx : streamExhausted (withSample din rest s) = true
      · simp [step, takeMove, hin, hx] at h
      · have hlim : s.halted = true ∨ s.sidx < Config.sampleLimit := by
          simpa [streamExhausted, imp_iff_not_or] using hx
        exact ⟨hlim, by simpa [step, takeMove, hin, hx, selectedInstr] using h⟩

end Sys2Proof.Machine
end

