-- ==== Sys2Proof/Tests/Slice0.lean ====
section
/-! SUPPORT. The author's tests. Expected results are the vectors of spec/95_test_vectors.md and the rules' own examples; the
`witness_` theorems show, for each statement with hypotheses, a state and operands that meet them together. -/

namespace Sys2Proof.Tests

open Sys2Proof Sys2Proof.Machine Sys2Proof.Safety

/-! ## Well-formedness -/

/-- A field that is not `{value, treq}` is refused (R100). -/
theorem test_cmdFrame_overlap_refused : (Instr.cmdFrame 3 0 6 0x007).wellFormed = false := by decide
theorem test_cmdFrame_overlap_accepted : (Instr.cmdFrame 3 0 6 0x006).wellFormed = true := by decide

/-- A word one too large for its format, for each format, and the largest that fits. -/
theorem test_wordFits_bounds :
    [Format.step8, .gcr5, .baudSel2, .cmd16, .tlm21, .tlm20d, .tlm16, .erpm12, .edt12].all (fun f =>
      !wordFits f (2 ^ f.width) && wordFits f (2 ^ f.width - 1)) = true := by decide
theorem test_decode_refuses_wide : decode .gcr5 0b100000 = .refused (.wordTooWide .gcr5) := by decide

/-! ## Decoding: words written from 30_encoding.md, and V-SD -/

/-- V-SD: every row of the table of step-select words. -/
theorem test_decode_step8 :
    [0x00, 0x01, 0x02, 0x08, 0x0A, 0x10, 0x14, 0x18, 0x20, 0x22, 0x28, 0x2C, 0x30, 0x34, 0x36].map (decode .step8) =
      [.instr .cmdIdle, .instr .cmdIdle, .instr .cmdTimeout, .instr .cmdEndEdge, .instr .cmdEndEdge,
       .instr .cmdStartEdge, .instr .cmdStartEdge, .instr .cmdStartEdge, .instr .cmdIdle, .instr .cmdTimeout,
       .instr .cmdEndEdge, .instr .cmdEndEdge, .instr .cmdStartEdge, .instr .cmdStartEdge, .instr .cmdStartEdge] := by decide
theorem test_decode_step8_telemetry :
    [0x40, 0x42, 0x44, 0x46, 0x4C, 0x50, 0x60, 0x61, 0x62, 0x63, 0x6F, 0x70, 0x73, 0x80, 0x82, 0xFF].map (decode .step8) =
      [.instr .tlmWait, .instr .tlmExpire, .instr .tlmStart, .instr .tlmExpire, .instr .tlmStart, .instr .tlmWait,
       .instr .tlmSkip, .instr .tlmSkip, .instr .tlmSample, .instr .tlmFinish, .instr .tlmFinish, .instr .tlmSkip,
       .instr .tlmFinish, .instr .halt, .instr .halt, .instr .halt] := by decide

/-- R108: the 32 codes, written in binary. -/
theorem test_decode_gcr5 :
    [0b00000, 0b00001, 0b00010, 0b00011, 0b00100, 0b00101, 0b00110, 0b00111, 0b01000, 0b01001, 0b01010, 0b01011,
     0b01100, 0b01101, 0b01110, 0b01111, 0b10000, 0b10001, 0b10010, 0b10011, 0b10100, 0b10101, 0b10110, 0b10111,
     0b11000, 0b11001, 0b11010, 0b11011, 0b11100, 0b11101, 0b11110, 0b11111].map (decode .gcr5) =
      [.instr .gcr00000Invalid, .instr .gcr00001Invalid, .instr .gcr00010Invalid, .instr .gcr00011Invalid,
       .instr .gcr00100Invalid, .instr .gcr00101Invalid, .instr .gcr00110Invalid, .instr .gcr00111Invalid,
       .instr .gcr01000Invalid, .instr .gcr01001, .instr .gcr01010, .instr .gcr01011, .instr .gcr01100Invalid,
       .instr .gcr01101, .instr .gcr01110, .instr .gcr01111, .instr .gcr10000Invalid, .instr .gcr10001Invalid,
       .instr .gcr10010, .instr .gcr10011, .instr .gcr10100Invalid, .instr .gcr10101, .instr .gcr10110,
       .instr .gcr10111, .instr .gcr11000Invalid, .instr .gcr11001, .instr .gcr11010, .instr .gcr11011,
       .instr .gcr11100Invalid, .instr .gcr11101, .instr .gcr11110, .instr .gcr11111Invalid] := by decide

/-- V-GC: what the 32 patterns look up, in order. -/
theorem test_gcrLookup_all :
    (List.range 32).map (fun p => gcrLookup (BitVec.ofNat 5 p)) =
      [none, none, none, none, none, none, none, none, none, some 9, some 10, some 11, none, some 13, some 14, some 15,
       none, none, some 2, some 3, none, some 5, some 6, some 7, none, some 0, some 8, some 1, none, some 4, some 12,
       none] := by decide

/-- R110. -/
theorem test_decode_baudSel2 : [0b00, 0b01, 0b10, 0b11].map (decode .baudSel2) =
    [.instr .baud150000, .instr .baud300000, .instr .baud600000, .instr .baud1200000] := by decide

/-- V-CA: value 1046 with a telemetry request is the word 0x82D7. -/
theorem test_decode_cmd16 : decode .cmd16 0x82D7 = .instr (.cmdFrame 1046 1 7 0x82D) := by decide
theorem test_encode_cmdFrame : encode (.cmdFrame 1046 1 7 0x82D) = (.cmd16, 0x82D7) := by decide

/-- V-TL-14: start-framing bit 1. -/
theorem test_decode_tlm21 : decode .tlm21 0x18BA2E = .instr (.tlmRaw 1 0x8BA2E) := by decide
/-- V-TL-2. -/
theorem test_decode_tlm20d : decode .tlm20d 0xEDBA9 = .instr (.tlmGcrGroups 0b11101 0b10110 0b11101 0b01001) := by decide
theorem test_decode_tlm16 : decode .tlm16 0x4649 = .instr (.tlmDecoded 0x464 0x9) := by decide
theorem test_decode_erpm12 : decode .erpm12 0x464 = .instr (.tlmErpm 2 100) := by decide
theorem test_decode_edt12 : decode .edt12 0xABC = .instr (.tlmEdt 0xABC) := by decide

/-! ## Pure functions -/

/-- V-L1-4, V-CB: command bits. -/
theorem test_classifyCommandBit :
    [(1000, 1330, 2000), (1000, 1660, 2000), (1000, 1500, 2000), (0, 6, 10), (0, 12, 10), (5, 8, 38)].map
      (fun b => classifyCommandBit b.1 b.2.1 b.2.2) = [false, true, false, true, true, false] := by decide
/-- V-CR: data, plain checksum, inverted checksum. -/
theorem test_computeChecksum :
    [(0x000, 0x0, 0xF), (0x123, 0x0, 0xF), (0x82D, 0x7, 0x8), (0xABC, 0xD, 0x2), (0xFFE, 0xE, 0x1)].all
      (fun r => computeChecksum r.1 false == r.2.1 && computeChecksum r.1 true == r.2.2) = true := by decide
/-- V-TL-2 and V-TL-4. -/
theorem test_diffDecode : diffDecode 0xB6D31 = 0xEDBA9 ∧ diffDecode 0x973A9 = 0xDCA7D := by decide
theorem test_diffEncode : diffEncode 0xEDBA9 = 0xB6D31 := by decide
/-- V-TC: `BP`, `T`, `H` at 10 MHz and 1 MHz, 600000 bit/s. -/
theorem test_deriveTiming :
    deriveTiming 10000000 2 = { baud := 600000, bp := 16, t := 48, h := 6 } ∧
    deriveTiming 1000000 2 = { baud := 600000, bp := 1, t := 3, h := 0 } := by decide
/-- V-TC: the error of the second of those is for bidirectional mode only. -/
theorem test_cfgError : cfgError 1000000 false (deriveTiming 1000000 2) = false ∧
    cfgError 1000000 true (deriveTiming 1000000 2) = true := by decide

/-! ## States -/

/-- C3M with `bidir` as given. -/
def c3m (bidir : Bool) : CfgInputs := { CfgInputs.atReset with bidir := bidir }

/-- Right after the reset with C3M, the given moves placed. -/
def fresh (bidir : Bool) (moves : List HostMove) : State :=
  State.afterReset { Ports.atReset with cfg := c3m bidir } moves

/-- At sample `i` of a command phase with the line at `prev` before. -/
def inCommand (bidir : Bool) (phase : Phase) (i last : Nat) (prev : Bool) (pend : Pending) (cmd : CmdAcc) : State :=
  { fresh bidir [] with
    sidx := i, phase := phase, lastEvt := last, line := { prevDin := prev, prevValid := true }, pend := pend, cmd := cmd }

/-- At sample `i` of a telemetry phase, after the P2 command frame. -/
def inTelemetry (phase : Phase) (i : Nat) (prev : Bool) (tlm : TlmAcc) : State :=
  { fresh true [] with
    sidx := i, phase := phase, lastEvt := 192, line := { prevDin := prev, prevValid := true }
    cmd := { sr := 0, cnt := 0, startIdx := 5, lastEnd := 165 }
    lc := { v := true, endIdx := 165 }, tlm := tlm }

/-- One sample of the given level. -/
def stepOn (din : Bool) (s : State) : Option State :=
  match step { s with inputs := [.sample din] } with
  | .next t => some t
  | .fault _ => none
  | .refused _ => none

/-- The meaning of an instruction, where it gives a next state. -/
def after (i : Instr) (s : State) : Option State :=
  match exec i s with
  | .next t => some t
  | .fault _ => none
  | .refused _ => none

/-- P1 before sample 15: the first bit fully timed. -/
def p1Bit : State :=
  inCommand false .recvCmd 15 8 true { psV := true, ps := 5, pmV := true, pm := 8 }
    { sr := 0, cnt := 0, startIdx := 5, lastEnd := 0 }

/-- P1 before sample 188: fifteen bits appended, the last one timed. -/
def p1End : State :=
  inCommand false .recvCmd 188 158 true { psV := true, ps := 155, pmV := true, pm := 158 }
    { sr := 0x0033, cnt := 15, startIdx := 5, lastEnd := 155 }

/-- P2 before sample 192. -/
def p2End : State :=
  inCommand true .recvCmd 192 162 false { psV := true, ps := 155, pmV := true, pm := 162 }
    { sr := 0x0304, cnt := 15, startIdx := 5, lastEnd := 155 }

/-- P2 before sample 378, the frame end. -/
def p2Finish : State := inTelemetry .recvTlm 378 true { t0 := 210, sr := 0x0B6D31, cnt := 21, next := 378 }

/-- A block that reset left halted (V-ER-1). -/
def haltedBlock : State := State.afterReset { Ports.atReset with cfg := { c3m false with sampleRate := 0 } } []

/-! ## Steps (V-SM) -/

theorem test_HALT : (stepOn true haltedBlock).map (fun t => (t.out.errCode, t.out.stHalted, t.out.stPhase, t.sidx)) =
    some (.configurationError, true, .awaitCmd, 0) := by decide

theorem test_CMD_START_EDGE_flush : (stepOn false p1Bit).map (fun t => (t.out.bit, t.cmd, t.pend.ps, t.pend.pmV, t.lastEvt)) =
    some ({ v := true, kind := .command, startIdx := 5, mid := 8, endIdx := 15, val := false, terr := false },
      { sr := 0, cnt := 1, startIdx := 5, lastEnd := 15 }, 15, false, 15) := by decide

theorem test_CMD_START_EDGE_first :
    (stepOn false { fresh false [] with sidx := 5, line := { prevDin := true, prevValid := true } }).map
      (fun t => (t.cmd.startIdx, t.pend, t.phase, t.out.bit.v)) =
    some (5, { psV := true, ps := 5, pmV := false, pm := 0 }, .recvCmd, false) := by decide

theorem test_CMD_END_EDGE :
    (stepOn true (inCommand false .recvCmd 8 5 false { psV := true, ps := 5, pmV := false, pm := 0 } (fresh false []).cmd)).map
      (fun t => (t.pend, t.lastEvt, t.phase)) =
    some ({ psV := true, ps := 5, pmV := true, pm := 8 }, 8, .recvCmd) := by decide

theorem test_CMD_IDLE :
    (stepOn false (inCommand false .recvCmd 6 5 false { psV := true, ps := 5, pmV := false, pm := 0 } (fresh false []).cmd)).map
      (fun t => (t.pend.pmV, t.lastEvt, t.sidx, t.out)) = some (false, 5, 7, .quiet .recvCmd false) := by decide

theorem test_CMD_TIMEOUT_complete : (stepOn true p1End).map (fun t => (t.out.cmd, t.lc, t.phase, t.cmd.cnt, t.lastEvt)) =
    some ({ v := true, value := 3, treq := 0, crcRx := 6, crcCalc := 6, crcOk := true, overlong := false, word := 0x0066,
            startIdx := 5, endIdx := 165 }, { v := true, endIdx := 165 }, .awaitCmd, 0, 188) := by decide

theorem test_CMD_TIMEOUT_bidirectional : (stepOn false p2End).map (fun t => (t.out.cmd.word, t.out.cmd.value, t.out.bit.val,
    t.out.cmd.crcOk, t.lc.endIdx, t.phase)) = some (0x0609, 48, true, true, 165, .awaitTlm) := by decide

theorem test_TLM_WAIT_rising : (stepOn true (inTelemetry .awaitTlm 200 false (fresh true []).tlm)).map
    (fun t => (t.phase, t.sidx)) = some (.awaitTlm, 201) := by decide

theorem test_TLM_START : (stepOn false (inTelemetry .awaitTlm 210 true (fresh true []).tlm)).map (fun t => (t.tlm, t.phase)) =
    some ({ t0 := 210, sr := 0, cnt := 0, next := 214 }, .recvTlm) := by decide

theorem test_TLM_EXPIRE : (stepOn false (inTelemetry .awaitTlm 366 false (fresh true []).tlm)).map
    (fun t => (t.out.evTlmExpired, t.phase, t.lastEvt)) = some (true, .awaitCmd, 366) := by decide

theorem test_TLM_SAMPLE_first : (stepOn false (inTelemetry .recvTlm 214 false { t0 := 210, sr := 0, cnt := 0, next := 214 })).map
    (fun t => (t.out.bit.startIdx, t.out.bit.endIdx, t.out.bit.val, t.tlm)) =
    some (210, 218, false, { t0 := 210, sr := 0, cnt := 1, next := 222 }) := by decide

theorem test_TLM_SAMPLE_last :
    (stepOn true (inTelemetry .recvTlm 374 true { t0 := 210, sr := 0x05B698, cnt := 20, next := 374 })).map
      (fun t => (t.out.bit.startIdx, t.out.bit.endIdx, t.out.bit.val, t.tlm)) =
    some (370, 378, true, { t0 := 210, sr := 0x0B6D31, cnt := 21, next := 378 }) := by decide

theorem test_TLM_SKIP_edge : (stepOn true (inTelemetry .recvTlm 370 false { t0 := 210, sr := 0, cnt := 20, next := 374 })).map
    (fun t => (t.tlm.cnt, t.tlm.next, t.phase, t.out)) = some (20, 374, .recvTlm, .quiet .recvTlm false) := by decide

theorem test_TLM_FINISH : (stepOn false p2Finish).map (fun t => (t.out.tlm, t.phase, t.lastEvt)) =
    some ({ v := true, raw := 0x0B6D31, gcrOk := true, badGroup := 0, badPattern := 0, decoded := 0x4649, payload := 0x464,
            crcRx := 9, crcCalc := 9, crcOk := true, kind := .erpm, exp := 2, mant := 100, periodUs := 400,
            startIdx := 210, endIdx := 378 }, .awaitCmd, 378) := by decide

/-- V-TL-13: the fourth group is invalid. -/
theorem test_TLM_FINISH_gcr_error :
    (stepOn false { p2Finish with tlm := { p2Finish.tlm with sr := 0x08BA3F } }).map
      (fun t => (t.out.tlm.gcrOk, t.out.tlm.badGroup, t.out.tlm.badPattern, t.out.errCode)) =
    some (false, 3, 0, .gcrDecodeError) := by decide

/-- A sample at the first index left out is refused (R309); the one before it is not. -/
theorem test_stream_limit :
    stepOn true { fresh false [] with sidx := Config.sampleLimit } = none ∧
    (stepOn true { fresh false [] with sidx := Config.sampleLimit - 1 }).isSome = true := by decide

/-! ## Codes and formats -/

/-- V-TC, 24 MHz and 3 MHz cells: the reset of each baud option. -/
theorem test_BAUD_resets :
    [Instr.baud150000, .baud300000, .baud600000, .baud1200000].map (fun i => (after i p1End).map (fun t => (t.tim.bp, t.tim.t, t.tim.h))) =
      [some (20, 60, 8), some (10, 30, 4), some (5, 15, 2), some (2, 6, 1)] := by decide

/-- V-GC: a valid code gives its nibble, an invalid one after it is named as group 1. -/
theorem test_GCR_codes : (after .gcr10010 (fresh true [])).map (fun t => t.out.wires.lanes) = some [some 2] ∧
    ((after .gcr10010 (fresh true [])).bind (after .gcr11000Invalid)).map
      (fun t => (t.out.tlm.badGroup, t.out.tlm.badPattern, t.out.errCode)) = some (1, 0b11000, .gcrDecodeError) := by decide

/-- V-CA finaliser: 0x0066 in bidirectional mode. -/
theorem test_CMD_FRAME : (after (.cmdFrame 3 0 6 6) (fresh true [])).map
    (fun t => (t.out.cmd.crcCalc, t.out.cmd.crcOk, t.out.cmd.word, t.out.errCode)) =
    some (9, false, 0x0066, .checksumMismatch) := by decide

/-- V-TL-2, stage by stage. -/
theorem test_TLM_RAW : (after (.tlmRaw 0 0xB6D31) (fresh true [])).map (fun t => (t.out.tlm.raw, t.out.wires.diff)) =
    some (0x0B6D31, 0xEDBA9) := by decide
theorem test_TLM_GCR_GROUPS : (after (.tlmGcrGroups 0b11101 0b10110 0b11101 0b01001) (fresh true [])).map
    (fun t => (t.out.tlm.gcrOk, t.out.tlm.decoded)) = some (true, 0x4649) := by decide
theorem test_TLM_DECODED : (after (.tlmDecoded 0x464 9) (fresh true [])).map
    (fun t => (t.out.tlm.payload, t.out.tlm.crcCalc, t.out.tlm.crcOk)) = some (0x464, 9, true) := by decide
theorem test_TLM_ERPM : (after (.tlmErpm 7 511) (fresh true [])).map (fun t => (t.out.tlm.kind, t.out.tlm.periodUs)) =
    some (.erpm, 65408) := by decide
theorem test_TLM_EDT : (after (.tlmEdt 0x464) (fresh true [])).map
    (fun t => (t.out.tlm.kind, t.out.tlm.payload, t.out.tlm.exp, t.out.tlm.periodUs, t.out.errCode)) =
    some (.edtNotImplemented, 0x464, 0, 0, .none) := by decide

/-! ## The table's words as the host places them -/

theorem test_decodeTableWord : decodeTableWord 8 0x63 = some .tlmFinish ∧ decodeTableWord 8 0x19 = some .gcr11001 ∧
    decodeTableWord 16 0x82D7 = some (.cmdFrame 1046 1 7 0x82D) ∧ decodeTableWord 24 0x0B6D31 = some (.tlmRaw 0 0xB6D31) := by
  decide
theorem test_withFetchWord_frame : (match step (State.reset.withFetchWord 16 0x0606) with
    | .next t => t.out.cmd.value == 48 && t.out.cmd.crcOk
    | .fault _ => false
    | .refused _ => false) = true := by decide

/-! ## Witnesses: for each statement with hypotheses, a state and operands that meet them together -/

/-- P1Bit with its next sample placed, as the step takes it. -/
def p1BitReady : State := { p1Bit with inputs := [.sample false] }

/-- P2 in the telemetry frame, between two sampling points. -/
def p2Between : State :=
  { inTelemetry .recvTlm 370 false { t0 := 210, sr := 0, cnt := 20, next := 374 } with inputs := [.sample true] }

theorem inv_p1BitReady : Safety.Inv p1BitReady := by constructor <;> decide
theorem inv_p2Between : Safety.Inv p2Between := by constructor <;> decide
theorem inv_p1End : Safety.Inv { p1End with inputs := [.sample true] } := by constructor <;> decide
theorem inv_p2Finish : Safety.Inv { p2Finish with inputs := [.sample false] } := by constructor <;> decide
theorem indexBounds_p1BitReady : IndexBounds p1BitReady := by constructor <;> decide

theorem witness_StepRunsTheDecodedInstruction_sample :
    p1BitReady.inputs = .sample false :: [] ∧ (p1BitReady.halted = true ∨ p1BitReady.sidx < 2 ^ 64 - 2 ^ 17) := by decide
theorem witness_StepRunsTheDecodedInstruction_halted_at_limit :
    let s : State := { haltedBlock with inputs := [.sample true], sidx := 2 ^ 64 - 2 ^ 17 }
    s.inputs = .sample true :: [] ∧ (s.halted = true ∨ s.sidx < 2 ^ 64 - 2 ^ 17) := by decide
theorem witness_StepRunsTheDecodedInstruction_reset :
    { p1Bit with inputs := [.reset (c3m true)] }.inputs = .reset (c3m true) :: [] := rfl
theorem witness_StoppedHostFreezesTheState : p1Bit.inputs = [] := rfl

/-- The refusal at the limit, and the two states next to it that are not refused. -/
theorem witness_StepRefusesExactlyTooLongStreams :
    (let s : State := { fresh false [.sample true] with sidx := 2 ^ 64 - 2 ^ 17 }
     s.halted = false ∧ 2 ^ 64 - 2 ^ 17 ≤ s.sidx ∧ s.inputs = .sample true :: []) ∧
    stepOn true { fresh false [] with sidx := 2 ^ 64 - 2 ^ 17 } = none ∧
    (stepOn true { haltedBlock with sidx := 2 ^ 64 - 2 ^ 17 }).isSome = true ∧
    (stepOn true { fresh false [] with sidx := 2 ^ 64 - 2 ^ 17 - 1 }).isSome = true := by decide

/-- Each clause of the edge rules: both polarities with an edge, and no previous sample. -/
theorem witness_EdgesFollowThePolarity :
    (p2End.cfg.bidir = true ∧ riseNow { p2End with ports := { p2End.ports with din := true } } = true) ∧
    (p1Bit.cfg.bidir = false ∧ fallNow { p1Bit with ports := { p1Bit.ports with din := false } } = true) ∧
    (fresh false []).line.prevValid = false := by decide

/-- Each phase's clause; at the ceiling itself the wait goes on, one sample later it expires. -/
theorem witness_SimultaneousConditionsHaveOnePriority :
    haltedBlock.halted = true ∧
    (p1Bit.halted = false ∧ p1Bit.phase = .recvCmd) ∧ ((fresh false []).halted = false ∧ (fresh false []).phase = .awaitCmd) ∧
    (let s := inTelemetry .awaitTlm 365 false (fresh true []).tlm
     s.halted = false ∧ s.phase = .awaitTlm ∧ decodeStep (stepSelect s) = .tlmWait) ∧
    (let s := inTelemetry .awaitTlm 366 false (fresh true []).tlm
     s.halted = false ∧ s.phase = .awaitTlm ∧ decodeStep (stepSelect s) = .tlmExpire) ∧
    (p2Finish.halted = false ∧ p2Finish.phase = .recvTlm) := by decide

theorem witness_EveryOperationEndsWithTheEpilogue : Instr.tlmSkip ∈ Spec.sampleOperations := by decide
theorem witness_WaitingOperationsOnlyPassTheSample :
    (Instr.tlmWait, (0x40 : SelectWord), (0xE6 : SelectWord)) ∈
      [(Instr.cmdIdle, (0x00 : SelectWord), (0xDA : SelectWord)), (Instr.tlmSkip, 0x60, 0xE2), (Instr.tlmWait, 0x40, 0xE6)] := by
  decide

/-- V-TL-2: 0x4649 is sent as the raw frame 0x0B6D31. -/
theorem witness_TelemetryWordSurvivesTheLine :
    p2Finish.tlm.sr = rawOf 0 (diffEncode (groupsOf (gcrPattern ((0x4649 : Word16).extractLsb' 12 4))
      (gcrPattern ((0x4649 : Word16).extractLsb' 8 4)) (gcrPattern ((0x4649 : Word16).extractLsb' 4 4))
      (gcrPattern ((0x4649 : Word16).extractLsb' 0 4)))) := by decide

/-- V-TL-7 and V-TL-13: the first and the last group as the first invalid one. -/
theorem witness_FirstInvalidGroupIsReported :
    gcrLookup ((diffDecode 0).extractLsb' 15 5) = none ∧
    gcrLookup ((diffDecode 0x8BA3F).extractLsb' 0 5) = none ∧
    ∀ k : Fin 4, k < 3 → gcrLookup ((diffDecode 0x8BA3F).extractLsb' (15 - 5 * k.val) 5) ≠ none := by decide

theorem witness_ResetLatchesTheConfiguration :
    (Instr.baud1200000, 3#2, 1200000) ∈
      [(Instr.baud150000, 0#2, 150000), (Instr.baud300000, 1#2, 300000), (Instr.baud600000, 2#2, 600000),
       (Instr.baud1200000, 3#2, 1200000)] := by decide

/-- Two sessions that differ, with one reset presented to both. -/
theorem witness_ResetDiscardsTheSession :
    let s₁ : State := { p1End with inputs := [.reset (c3m true)] }
    let s₂ : State := { p2Finish with inputs := [.reset (c3m true)] }
    s₁.inputs = .reset (c3m true) :: [] ∧ s₂.inputs = .reset (c3m true) :: [] ∧ s₁.ports.din = s₂.ports.din ∧
      s₁.phase ≠ s₂.phase := by decide

theorem witness_ValidCodesGiveTheirNibbles : (Instr.gcr11001, (0x19 : GcrCode), (0x0 : Nibble)) ∈ Spec.validCodes := by decide
theorem witness_InvalidCodesAreNamed : (Instr.gcr11111Invalid, (0x1F : GcrCode)) ∈ Spec.invalidCodes := by decide
theorem witness_CommandFrameDrivesItsRecord : (Instr.cmdFrame 2047 1 0 0xFFF).wellFormed = true := by decide

/-- Four valid groups, and four of which one is not. -/
theorem witness_GroupsDecodeLaneByLane :
    (gcrLookup 0b11101 = some 4 ∧ gcrLookup 0b10110 = some 6 ∧ gcrLookup 0b11101 = some 4 ∧ gcrLookup 0b01001 = some 9) ∧
    (gcrLookup 0b11001 = none ∨ gcrLookup 0b11111 = none ∨ gcrLookup 0b11001 = none ∨ gcrLookup 0b11001 = none) := by decide

/-- R26 at the largest sample rate and the slowest option, and the last index of the spec. -/
theorem witness_TimingCountsAreBounded :
    deriveTiming 0xFFFFFFFF 0 = { baud := 150000, bp := 28633, t := 85899, h := 11453 } ∧
    2 ^ 64 - 2 ^ 17 - 1 < 2 ^ 64 - 2 ^ 17 := by decide

theorem witness_CommandBitIsTheExactDutyRatio :
    (1000 ≤ 1500 ∧ 1000 < 2000 ∧ classifyCommandBit 1000 1500 2000 = false) ∧
    (0 ≤ 6 ∧ 0 < 10 ∧ classifyCommandBit 0 6 10 = true) := by decide

theorem witness_CommandBitsArriveMsbFirst :
    (fresh false []).cmd.sr = 0 ∧ (fresh false []).cmd.cnt = 0 ∧ (List.replicate 16 (true, 7)).length = 16 := by decide
theorem witness_TelemetryBitsArriveMsbFirst :
    (fresh true []).tlm.sr = 0 ∧ (fresh true []).tlm.cnt = 0 ∧ (List.replicate 21 true).length = 21 := by decide
theorem witness_DecodeOfEncode : (Instr.cmdFrame 1046 1 7 0x82D).wellFormed = true ∧ (Instr.tlmErpm 7 511).wellFormed = true := by
  decide
theorem witness_EncodeOfDecode : decode .tlm21 0x1FFFFF = .instr (.tlmRaw 1 0xFFFFF) ∧ decode .step8 0xFF = .instr .halt := by
  decide
theorem witness_WideWordsAreRefused : 2 ^ Format.edt12.width ≤ 0x1000 ∧ 0xFFF < 2 ^ Format.edt12.width := by decide

/-- States of the invariant that step: a start edge, a timeout, a skipped sample and a frame end. -/
theorem witness_EveryStepKeepsTheInvariant :
    Safety.Inv p1BitReady ∧ (∃ t, step p1BitReady = .next t) ∧ Safety.Inv p2Between ∧ (∃ t, step p2Between = .next t) :=
  ⟨inv_p1BitReady, ⟨_, rfl⟩, inv_p2Between, ⟨_, rfl⟩⟩
theorem witness_EveryStepKeepsIndicesIn64Bits :
    Safety.Inv p1BitReady ∧ IndexBounds p1BitReady ∧ ∃ t, step p1BitReady = .next t :=
  ⟨inv_p1BitReady, indexBounds_p1BitReady, ⟨_, rfl⟩⟩

/-- P2: the step at sample 192 opens the telemetry wait. -/
theorem witness_TelemetryGateNeedsAValidFrame :
    (∃ t, step { p2End with inputs := [.sample false] } = .next t ∧ t.phase = .awaitTlm) ∧ p2End.phase ≠ .awaitTlm :=
  ⟨⟨_, rfl, by decide⟩, by decide⟩
theorem witness_UnidirectionalBlockStaysInTheCommandPhase :
    (p1BitReady.cfg.bidir = false ∧ commandPhase p1BitReady.phase = true) ∧ ∃ t, step p1BitReady = .next t :=
  ⟨by decide, ⟨_, rfl⟩⟩

/-- A running block and a halted one, each at a sample. -/
theorem witness_PhaseTransitionsAreTheTable :
    (p1BitReady.inputs = .sample false :: [] ∧ p1BitReady.halted = false ∧ ∃ t, step p1BitReady = .next t) ∧
    (haltedBlock.halted = true ∧ ∃ t, step { haltedBlock with inputs := [.sample true] } = .next t) :=
  ⟨⟨rfl, by decide, ⟨_, rfl⟩⟩, by decide, ⟨_, rfl⟩⟩
theorem witness_OutputsAreWellFormed : p1BitReady.inputs ≠ [] ∧ ∃ t, step p1BitReady = .next t := ⟨by decide, ⟨_, rfl⟩⟩
theorem witness_OnlyResetChangesTheConfiguration :
    (p1BitReady.inputs = .sample false :: [] ∧ ∃ t, step p1BitReady = .next t) ∧
    (haltedBlock.halted = true ∧ ∃ t, step { haltedBlock with inputs := [.sample false] } = .next t) :=
  ⟨⟨rfl, ⟨_, rfl⟩⟩, by decide, ⟨_, rfl⟩⟩
theorem witness_GlitchBetweenSamplingPointsIsInvisible :
    p2Between.phase = .recvTlm ∧ p2Between.halted = false ∧ p2Between.sidx ≠ p2Between.tlm.next ∧
      p2Between.sidx < 2 ^ 64 - 2 ^ 17 := by decide

/-- A start edge with a start pending, and an end edge: both selected in states of the invariant. -/
theorem witness_EdgesAlternate_start :
    Safety.Inv p1BitReady ∧ p1BitReady.inputs = .sample false :: [] ∧
      decodeStep (stepSelect (Spec.atSample false [] p1BitReady)) = .cmdStartEdge ∧ p1BitReady.pend.psV = true :=
  ⟨inv_p1BitReady, rfl, by decide, by decide⟩
theorem witness_EdgesAlternate_end :
    let s : State := { inCommand false .recvCmd 8 5 false { psV := true, ps := 5, pmV := false, pm := 0 } (fresh false []).cmd with
      inputs := [.sample true] }
    Safety.Inv s ∧ s.inputs = .sample true :: [] ∧ decodeStep (stepSelect (Spec.atSample true [] s)) = .cmdEndEdge :=
  ⟨by constructor <;> decide, rfl, by decide⟩

/-- P2 with the frame's last sample to come. -/
theorem witness_TelemetryFrameEndsAfterItsSamples :
    let s : State := { p2Finish with inputs := Spec.samples [false] }
    Safety.Inv s ∧ s.phase = .recvTlm ∧ s.halted = false ∧ s.inputs = Spec.samples [false] ∧
      s.tlm.t0 + 42 * s.tim.h < 2 ^ 64 - 2 ^ 17 ∧ s.sidx + [false].length = s.tlm.t0 + 42 * s.tim.h + 1 :=
  ⟨inv_p2Finish, by decide⟩

end Sys2Proof.Tests
end

section
/-! SUPPORT. What a sample does, by the phase it finds: the conditions of each step operation and its effect (R91, R240, R270),
and that no meaning stops. -/

namespace Sys2Proof.Machine

open Sys2Proof.Safety

/-! ### The edges -/

/-- R152: a start edge is an edge to the level of a bit's duty, high exactly in bidirectional mode. -/
theorem startEdgeNow_eq (s : State) : startEdgeNow s = (edgeNow s && (s.ports.din == s.cfg.bidir)) := by
  cases hb : s.cfg.bidir <;> simp [startEdgeNow, riseNow, fallNow, hb]

/-- R152: an end edge is an edge to the other level. -/
theorem endEdgeNow_eq (s : State) : endEdgeNow s = (edgeNow s && (s.ports.din != s.cfg.bidir)) := by
  cases hb : s.cfg.bidir <;> simp [endEdgeNow, riseNow, fallNow, hb]

/-- R150, R152: an edge is a start edge or an end edge. -/
theorem edgeNow_eq_false_of_no_command_edge {s : State} (hs : startEdgeNow s = false) (he : endEdgeNow s = false) :
    edgeNow s = false := by
  cases hedge : edgeNow s with
  | false => rfl
  | true =>
    have hlevel : s.ports.din ≠ s.cfg.bidir := by simpa [startEdgeNow_eq, hedge] using hs
    have hother : s.ports.din = s.cfg.bidir := by simpa [endEdgeNow_eq, hedge] using he
    exact absurd hother hlevel

/-- R152: after a start edge the line is at the level of a bit's duty. -/
theorem din_of_startEdgeNow {s : State} (h : startEdgeNow s = true) : s.ports.din = s.cfg.bidir := by
  rw [startEdgeNow_eq, Bool.and_eq_true, beq_iff_eq] at h
  exact h.2

/-- R152: after an end edge the line is at the other level. -/
theorem din_of_endEdgeNow {s : State} (h : endEdgeNow s = true) : s.ports.din = !s.cfg.bidir := by
  rw [endEdgeNow_eq, Bool.and_eq_true, bne_iff_ne] at h
  exact Bool.eq_not.mpr h.2

/-- R150: with a previous sample and no edge the level is the previous one. -/
theorem din_of_no_edge {s : State} (hv : s.line.prevValid = true) (h : edgeNow s = false) :
    s.ports.din = s.line.prevDin := by
  simpa [edgeNow, hv] using h

/-! ### The operation that a sample selects -/

/-- R91: a halted block performs HALT. -/
theorem decodeStep_stepSelect_halted {s : State} (h : s.halted = true) : decodeStep (stepSelect s) = .halt := by
  rw [stepSelect, h, decodeStep_halted]

/-- R91, R270: in a command phase the start edge comes first, then the end edge, then the timeout. -/
theorem decodeStep_stepSelect_command {s : State} (hrun : s.halted = false) (hp : commandPhase s.phase = true) :
    decodeStep (stepSelect s) =
      if startEdgeNow s then .cmdStartEdge else if endEdgeNow s then .cmdEndEdge
      else if s.sidx - s.lastEvt = s.tim.t then .cmdTimeout else .cmdIdle := by
  rw [stepSelect, hrun]
  cases hph : s.phase with
  | awaitCmd => simpa [timerHit, hph, phaseBits] using decodeStep_command false _ _ _ (timerHit s) _
  | recvCmd => simpa [timerHit, hph, phaseBits] using decodeStep_command true _ _ _ (timerHit s) _
  | awaitTlm => simp [hph, commandPhase] at hp
  | recvTlm => simp [hph, commandPhase] at hp

/-- R91, R270: in AWAIT_TLM the ceiling comes before the falling edge. -/
theorem decodeStep_stepSelect_awaitTlm {s : State} (hrun : s.halted = false) (hp : s.phase = .awaitTlm) :
    decodeStep (stepSelect s) =
      if s.cfg.maxTelemWait.toNat < s.sidx - s.lc.endIdx then .tlmExpire
      else if fallNow s then .tlmStart else .tlmWait := by
  simpa [stepSelect, hrun, hp, phaseBits, timerHit] using decodeStep_awaitTlm _ _ _ (timerHit s) _

/-- R91, R270: in RECV_TLM no edge is looked at. -/
theorem decodeStep_stepSelect_recvTlm {s : State} (hrun : s.halted = false) (hp : s.phase = .recvTlm) :
    decodeStep (stepSelect s) =
      if s.sidx = s.tlm.next then (if s.tlm.cnt = Config.tlmFrameBits then .tlmFinish else .tlmSample)
      else .tlmSkip := by
  simpa [stepSelect, hrun, hp, phaseBits, timerHit, tlmFull] using
    decodeStep_recvTlm (startEdgeNow s) (endEdgeNow s) (fallNow s) (timerHit s) (tlmFull s)

/-- R91, R268: the effects that a sample presented to a running block in the state `s` can select, each with the conditions of
its row of the table. -/
inductive SelectedEffect (s : State) : (State → State) → Prop
  | startEdge (command : commandPhase s.phase = true) (edge : startEdgeNow s = true) : SelectedEffect s cmdStartEdge
  | endEdge (command : commandPhase s.phase = true) (edge : endEdgeNow s = true) : SelectedEffect s cmdEndEdge
  | timeout (command : commandPhase s.phase = true) (noEdge : edgeNow s = false)
      (due : s.sidx - s.lastEvt = s.tim.t) : SelectedEffect s cmdTimeout
  | idle (command : commandPhase s.phase = true) (noEdge : edgeNow s = false)
      (notDue : s.sidx - s.lastEvt ≠ s.tim.t) : SelectedEffect s id
  | expire (await : s.phase = .awaitTlm) (past : s.cfg.maxTelemWait.toNat < s.sidx - s.lc.endIdx) :
      SelectedEffect s tlmExpire
  | start (await : s.phase = .awaitTlm) (within : ¬ s.cfg.maxTelemWait.toNat < s.sidx - s.lc.endIdx)
      (edge : fallNow s = true) : SelectedEffect s tlmStart
  | wait (await : s.phase = .awaitTlm) (within : ¬ s.cfg.maxTelemWait.toNat < s.sidx - s.lc.endIdx)
      (noEdge : fallNow s = false) : SelectedEffect s id
  | sample (receive : s.phase = .recvTlm) (due : s.sidx = s.tlm.next) (notFull : s.tlm.cnt ≠ Config.tlmFrameBits) :
      SelectedEffect s tlmSample
  | finish (receive : s.phase = .recvTlm) (due : s.sidx = s.tlm.next) (full : s.tlm.cnt = Config.tlmFrameBits) :
      SelectedEffect s tlmFinish
  | skip (receive : s.phase = .recvTlm) (notDue : s.sidx ≠ s.tlm.next) : SelectedEffect s id

/-- R240: clearing the outputs changes nothing that the selection reads. -/
theorem SelectedEffect.beginStep {s : State} {body : State → State} (h : SelectedEffect s body) :
    SelectedEffect (beginStep s) body := by
  cases h with
  | startEdge command edge => exact .startEdge command edge
  | endEdge command edge => exact .endEdge command edge
  | timeout command noEdge due => exact .timeout command noEdge due
  | idle command noEdge notDue => exact .idle command noEdge notDue
  | expire await past => exact .expire await past
  | start await within edge => exact .start await within edge
  | wait await within noEdge => exact .wait await within noEdge
  | sample receive due notFull => exact .sample receive due notFull
  | finish receive due full => exact .finish receive due full
  | skip receive notDue => exact .skip receive notDue

/-- R240, R268: in a command phase a sample runs one of the four command operations. -/
theorem exec_selected_command {s : State} (hrun : s.halted = false) (hp : commandPhase s.phase = true) :
    ∃ body, SelectedEffect s body ∧ exec (decodeStep (stepSelect s)) s = .next (runOperation body s) := by
  rw [decodeStep_stepSelect_command hrun hp]
  cases hs : startEdgeNow s with
  | true => exact ⟨_, .startEdge hp hs, rfl⟩
  | false =>
    cases he : endEdgeNow s with
    | true => exact ⟨_, .endEdge hp he, rfl⟩
    | false =>
      have hq := edgeNow_eq_false_of_no_command_edge hs he
      by_cases ht : s.sidx - s.lastEvt = s.tim.t
      · exact ⟨_, .timeout hp hq ht, by simp only [ht]; rfl⟩
      · exact ⟨_, .idle hp hq ht, by simp only [ht]; rfl⟩

/-- R260, R268: in AWAIT_TLM a sample abandons the wait, begins a frame, or waits on. -/
theorem exec_selected_awaitTlm {s : State} (hrun : s.halted = false) (hp : s.phase = .awaitTlm) :
    ∃ body, SelectedEffect s body ∧ exec (decodeStep (stepSelect s)) s = .next (runOperation body s) := by
  rw [decodeStep_stepSelect_awaitTlm hrun hp]
  by_cases ho : s.cfg.maxTelemWait.toNat < s.sidx - s.lc.endIdx
  · exact ⟨_, .expire hp ho, by simp only [ho]; rfl⟩
  · cases hf : fallNow s with
    | true => exact ⟨_, .start hp ho hf, by simp only [ho]; rfl⟩
    | false => exact ⟨_, .wait hp ho hf, by simp only [ho]; rfl⟩

/-- R263, R268: in RECV_TLM a sample is recorded, ends the frame, or is skipped. -/
theorem exec_selected_recvTlm {s : State} (hrun : s.halted = false) (hp : s.phase = .recvTlm) :
    ∃ body, SelectedEffect s body ∧ exec (decodeStep (stepSelect s)) s = .next (runOperation body s) := by
  rw [decodeStep_stepSelect_recvTlm hrun hp]
  by_cases hd : s.sidx = s.tlm.next
  · by_cases hc : s.tlm.cnt = Config.tlmFrameBits
    · exact ⟨_, .finish hp hd hc, by rw [if_pos hd, if_pos hc]; rfl⟩
    · exact ⟨_, .sample hp hd hc, by rw [if_pos hd, if_neg hc]; rfl⟩
  · exact ⟨_, .skip hp hd, by rw [if_neg hd]; rfl⟩

/-- R240, R268: a sample presented to a running block runs the operation of an effect that its conditions select. -/
theorem exec_selected {s : State} (hrun : s.halted = false) :
    ∃ body, SelectedEffect s body ∧ exec (decodeStep (stepSelect s)) s = .next (runOperation body s) := by
  cases hp : s.phase with
  | awaitCmd => exact exec_selected_command hrun (by rw [hp]; rfl)
  | recvCmd => exact exec_selected_command hrun (by rw [hp]; rfl)
  | awaitTlm => exact exec_selected_awaitTlm hrun hp
  | recvTlm => exact exec_selected_recvTlm hrun hp

/-- R242: what HALT leaves: the state as it is, with ConfigurationError driven. -/
theorem exec_halt (s : State) :
    exec .halt s =
      .next { s with out := { Outputs.quiet s.phase s.halted with errCode := .configurationError } } := rfl

/-- R82, R240: a step that gives a next state is a stopped host, a reset, a halted block's sample, or a running block's sample
below the index limit with the operation it selects. -/
theorem step_next_effect {s t : State} (h : step s = .next t) :
    (s.inputs = [] ∧ t = s) ∨
    (∃ cfg rest, s.inputs = .reset cfg :: rest ∧
      t = State.afterReset { s.ports with rst := true, cfg := cfg } rest) ∨
    (∃ din rest, s.inputs = .sample din :: rest ∧ s.halted = true ∧
      t = { withSample din rest s with
        out := { Outputs.quiet s.phase s.halted with errCode := .configurationError } }) ∨
    (∃ din rest body, s.inputs = .sample din :: rest ∧ s.halted = false ∧ s.sidx < Config.sampleLimit ∧
      SelectedEffect (withSample din rest s) body ∧ t = runOperation body (withSample din rest s)) := by
  obtain hstop | hreset | ⟨din, rest, hin, hlim, hexec⟩ := step_next_cases h
  · exact .inl hstop
  · exact .inr (.inl hreset)
  · refine .inr (.inr ?_)
    cases hh : s.halted with
    | true =>
      rw [decodeStep_stepSelect_halted (s := withSample din rest s) hh, exec_halt] at hexec
      injection hexec with ht
      exact .inl ⟨din, rest, hin, rfl, by rw [← ht, ← hh]⟩
    | false =>
      obtain ⟨body, heffect, hbody⟩ := exec_selected (s := withSample din rest s) hh
      rw [hbody] at hexec
      injection hexec with ht
      exact .inr ⟨din, rest, body, hin, rfl, by simpa [hh] using hlim, heffect, ht.symm⟩

/-! ### No meaning stops -/

/-- R309, log 8: every meaning answers with a next state. -/
theorem exec_next (i : Instr) (s : State) : ∃ t, exec i s = .next t := by
  cases i <;> exact ⟨_, rfl⟩

/-- R110, R340: the decoded baud option is the reset that latches its code. -/
theorem exec_decodeBaud (sel : BitVec 2) (s : State) : exec (decodeBaud sel) s = .next (takeReset sel s) := by
  have hsel : sel = 0 ∨ sel = 1 ∨ sel = 2 ∨ sel = 3 := by revert sel; decide
  obtain rfl | rfl | rfl | rfl := hsel <;> rfl

/-- R21, R309: the stream is too long exactly for a sample at the limit or beyond, presented to a running block. -/
theorem streamExhausted_iff (s : State) :
    streamExhausted s = true ↔ s.ports.rst = false ∧ s.halted = false ∧ Config.sampleLimit ≤ s.sidx := by
  simp [streamExhausted, and_assoc]

/-- R21, R82, R309: a step stops only before its instruction, at a sample for which the stream is too long. -/
theorem step_outcome (s : State) :
    ((∃ t, step s = .next t) ∧
      ¬(s.halted = false ∧ Config.sampleLimit ≤ s.sidx ∧ ∃ din rest, s.inputs = .sample din :: rest)) ∨
    (step s = .refused .streamTooLong ∧
      s.halted = false ∧ Config.sampleLimit ≤ s.sidx ∧ ∃ din rest, s.inputs = .sample din :: rest) := by
  rcases hin : s.inputs with _ | ⟨cfg | din, rest⟩
  · exact .inl ⟨⟨s, by simp [step, takeMove, hin]⟩, by simp⟩
  · obtain ⟨t, ht⟩ := exec_next (decodeBaud cfg.baudSel)
      { s with inputs := rest, ports := { s.ports with rst := true, cfg := cfg } }
    exact .inl ⟨⟨t, by simpa [step, takeMove, hin, streamExhausted, selectedInstr] using ht⟩, by simp⟩
  · have hlimit := streamExhausted_iff (withSample din rest s)
    by_cases hlong : streamExhausted (withSample din rest s) = true
    · obtain ⟨-, hrun, hle⟩ := hlimit.mp hlong
      exact .inr ⟨by simp [step, takeMove, hin, hlong], hrun, hle, din, rest, rfl⟩
    · obtain ⟨t, ht⟩ := exec_next (selectedInstr (withSample din rest s)) (withSample din rest s)
      refine .inl ⟨⟨t, by simpa [step, takeMove, hin, hlong] using ht⟩, ?_⟩
      rintro ⟨hrun, hle, -⟩
      exact hlong (hlimit.mpr ⟨rfl, hrun, hle⟩)

/-- R309, log 8: no step faults. -/
theorem step_ne_fault (s : State) (f : Fault) : step s ≠ .fault f := by
  obtain ⟨⟨t, ht⟩, -⟩ | ⟨hr, -⟩ := step_outcome s
  · rw [ht]; nofun
  · rw [hr]; nofun

/-- R21, R309, log 5: the one refusal of a step, and when it is given. -/
theorem step_refused_iff (s : State) (r : Refusal) :
    step s = .refused r ↔
      r = .streamTooLong ∧ s.halted = false ∧ Config.sampleLimit ≤ s.sidx ∧ ∃ din rest, s.inputs = .sample din :: rest := by
  obtain ⟨⟨t, ht⟩, hnot⟩ | ⟨hr, hlong⟩ := step_outcome s
  · rw [ht]
    exact ⟨nofun, fun h => absurd h.2 hnot⟩
  · rw [hr]
    constructor
    · rintro ⟨⟩
      exact ⟨rfl, hlong⟩
    · rintro ⟨rfl, -⟩
      rfl

end Sys2Proof.Machine
end

section
/-! SUPPORT. What each operation's effect leaves alone and what it writes: the configuration, the sample index, and the registers
of its own (R243 to R267). -/

namespace Sys2Proof.Machine

open Sys2Proof.Safety

/-! ### The accumulator after a flush -/

/-- R170, R244: a flush appends the pending bit exactly when it is fully timed. -/
theorem flushPending_cmd (e : Nat) (s : State) :
    (flushPending e s).cmd =
      if s.pend.psV = true ∧ s.pend.pmV = true then
        { s.cmd with
          sr := shiftIn s.cmd.sr (classifyCommandBit s.pend.ps s.pend.pm e)
          cnt := min (s.cmd.cnt + 1) Config.cmdCntMax, lastEnd := e }
      else s.cmd := by
  obtain ⟨ht, hf⟩ | ⟨ht, hf⟩ := flushPending_cases e s
  · rw [if_pos ht, hf]; rfl
  · rw [if_neg ht, hf]

/-- R32: the flush keeps the saturation of the bit count. -/
theorem flushPending_cnt_le {e : Nat} {s : State} (h : s.cmd.cnt ≤ Config.cmdCntMax) :
    (flushPending e s).cmd.cnt ≤ Config.cmdCntMax := by
  rw [flushPending_cmd]
  split
  · exact Nat.min_le_right _ _
  · exact h

/-- R170, R244: the flush leaves the start of the frame alone. -/
@[simp] theorem flushPending_startIdx (e : Nat) (s : State) :
    (flushPending e s).cmd.startIdx = s.cmd.startIdx := by
  rw [flushPending_cmd]; split <;> rfl

/-- R154, R244: the flush drives the record of the bit that it appends, and nothing else. -/
theorem flushPending_out (e : Nat) (s : State) :
    (flushPending e s).out =
      if s.pend.psV = true ∧ s.pend.pmV = true then { s.out with bit := pendingBit e s } else s.out := by
  obtain ⟨ht, hf⟩ | ⟨ht, hf⟩ := flushPending_cases e s
  · rw [if_pos ht, hf]; rfl
  · rw [if_neg ht, hf]

/-! ### The effects as register updates -/

/-- R244: the start edge's effect: the flush, then a new bit and a new window at this sample. -/
theorem cmdStartEdge_eq (s : State) :
    cmdStartEdge s =
      { flushPending s.sidx s with
        cmd := { (flushPending s.sidx s).cmd with
          startIdx := if s.phase = .awaitCmd then s.sidx else (flushPending s.sidx s).cmd.startIdx }
        pend := { s.pend with psV := true, ps := s.sidx, pmV := false }
        lastEvt := s.sidx, phase := .recvCmd } := by
  cases hp : s.phase <;> simp [cmdStartEdge, hp, goTo, restartWindow, -flushPending_startIdx]

/-- R246: the end edge's effect: the mid of a pending bit that has none, and a new window. -/
theorem cmdEndEdge_eq (s : State) :
    cmdEndEdge s =
      { s with
        pend := if s.pend.psV = true ∧ s.pend.pmV = false then { s.pend with pm := s.sidx, pmV := true } else s.pend
        lastEvt := s.sidx } := by
  unfold cmdEndEdge
  cases s.pend.psV <;> cases s.pend.pmV <;> rfl

/-- R264, R302: the sampling point's effect: the level is recorded, appended and the cursor moved; no error is raised. -/
theorem tlmSample_eq (s : State) :
    tlmSample s = tlmAdvance s.sidx (tlmAppend s.ports.din (emitBit (telemetryBit s.ports.din false s) s)) := by
  simp [tlmSample]

/-! ### What no operation touches -/

/-- R24, R25, R27: `t` has the configuration of `s`, with the moves and the ports of the same step. -/
structure SameConfiguration (s t : State) : Prop where
  inputs : t.inputs = s.inputs
  ports : t.ports = s.ports
  cfg : t.cfg = s.cfg
  tim : t.tim = s.tim
  halted : t.halted = s.halted

/-- R24, R25, R27: no operation of a sample touches the configuration. -/
theorem SelectedEffect.sameConfiguration {s : State} {body : State → State} (h : SelectedEffect s body) (r : State) :
    SameConfiguration r (body r) := by
  cases h with
  | startEdge => constructor <;> simp [cmdStartEdge_eq]
  | endEdge => constructor <;> simp [cmdEndEdge_eq]
  | timeout => constructor <;> simp [cmdTimeout]
  | expire => constructor <;> rfl
  | start => constructor <;> rfl
  | sample => constructor <;> simp [tlmSample_eq]
  | finish => constructor <;> simp [tlmFinish]
  | idle | wait | skip => constructor <;> rfl

/-- R243: no operation's own effect moves the sample index; the epilogue alone does. -/
theorem SelectedEffect.sidx_eq {s : State} {body : State → State} (h : SelectedEffect s body) (r : State) :
    (body r).sidx = r.sidx := by
  cases h with
  | startEdge => simp [cmdStartEdge_eq]
  | endEdge => simp [cmdEndEdge_eq]
  | timeout => simp [cmdTimeout]
  | sample => simp [tlmSample_eq]
  | finish => simp [tlmFinish]
  | expire | start | idle | wait | skip => rfl

/-- R24, R25, R27: nor do the clearing of the outputs, the epilogue and the status. -/
theorem SelectedEffect.sameConfiguration_runOperation {s : State} {body : State → State} (h : SelectedEffect s body)
    (r : State) : SameConfiguration r (runOperation body r) := by
  obtain ⟨hinputs, hports, hcfg, htim, hhalted⟩ := h.sameConfiguration (Machine.beginStep r)
  exact ⟨hinputs, hports, hcfg, htim, hhalted⟩

/-- R24, R25, R27: a sample's step leaves the configuration, and in a halted block changes nothing but the outputs. -/
theorem step_sample_configuration {s t : State} {din : Bool} {rest : List HostMove} (hin : s.inputs = .sample din :: rest)
    (hstep : step s = .next t) :
    SameConfiguration (withSample din rest s) t ∧ (s.halted = true → t = { withSample din rest s with out := t.out }) := by
  obtain ⟨hstop, -⟩ | ⟨cfg, rest', hreset, -⟩ | ⟨din', rest', hin', -, rfl⟩ |
    ⟨din', rest', body, hin', hrun, -, heffect, rfl⟩ := step_next_effect hstep
  · simp [hin] at hstop
  · simp [hin] at hreset
  · obtain ⟨rfl, rfl⟩ : din = din' ∧ rest = rest' := by simpa [hin] using hin'
    exact ⟨⟨rfl, rfl, rfl, rfl, rfl⟩, fun _ => rfl⟩
  · obtain ⟨rfl, rfl⟩ : din = din' ∧ rest = rest' := by simpa [hin] using hin'
    exact ⟨heffect.sameConfiguration_runOperation _, fun hh => by simp [hrun] at hh⟩

/-! ### The end edge's effect (R246) -/

@[simp] theorem cmdEndEdge_ports (s : State) : (cmdEndEdge s).ports = s.ports := by rw [cmdEndEdge_eq]
@[simp] theorem cmdEndEdge_cfg (s : State) : (cmdEndEdge s).cfg = s.cfg := by rw [cmdEndEdge_eq]
@[simp] theorem cmdEndEdge_sidx (s : State) : (cmdEndEdge s).sidx = s.sidx := by rw [cmdEndEdge_eq]
@[simp] theorem cmdEndEdge_phase (s : State) : (cmdEndEdge s).phase = s.phase := by rw [cmdEndEdge_eq]
@[simp] theorem cmdEndEdge_lastEvt (s : State) : (cmdEndEdge s).lastEvt = s.sidx := by rw [cmdEndEdge_eq]
@[simp] theorem cmdEndEdge_cmd (s : State) : (cmdEndEdge s).cmd = s.cmd := by rw [cmdEndEdge_eq]
@[simp] theorem cmdEndEdge_lc (s : State) : (cmdEndEdge s).lc = s.lc := by rw [cmdEndEdge_eq]
@[simp] theorem cmdEndEdge_tlm (s : State) : (cmdEndEdge s).tlm = s.tlm := by rw [cmdEndEdge_eq]
@[simp] theorem cmdEndEdge_out (s : State) : (cmdEndEdge s).out = s.out := by rw [cmdEndEdge_eq]

/-- R246: an end edge changes neither whether a bit is pending nor its start, and leaves a pending bit with a mid. -/
theorem cmdEndEdge_pending (s : State) :
    (cmdEndEdge s).pend.psV = s.pend.psV ∧ (cmdEndEdge s).pend.ps = s.pend.ps ∧
      (s.pend.psV = true → (cmdEndEdge s).pend.pmV = true) := by
  simp only [cmdEndEdge_eq]
  cases hs : s.pend.psV <;> cases hm : s.pend.pmV <;> simp [hs, hm]

/-! ### The timeout's effect (R250) -/

/-- R250: the timeout empties the accumulator and the pending bit, and begins a new window. -/
@[simp] theorem cmdTimeout_pend (s : State) :
    (cmdTimeout s).pend = { s.pend with psV := false, pmV := false } := by simp [cmdTimeout]

@[simp] theorem cmdTimeout_cnt (s : State) : (cmdTimeout s).cmd.cnt = 0 := by simp [cmdTimeout]

@[simp] theorem cmdTimeout_lastEvt (s : State) : (cmdTimeout s).lastEvt = s.sidx := by simp [cmdTimeout]

@[simp] theorem cmdTimeout_sidx (s : State) : (cmdTimeout s).sidx = s.sidx := by simp [cmdTimeout]

/-- R250, R253: the timeout either closes the frame without opening the wait, or remembers a frame of at least 16 bits in
bidirectional mode and opens it. -/
theorem cmdTimeout_phase_cases (s : State) :
    (cmdTimeout s).phase = .awaitCmd ∨
    ((cmdTimeout s).phase = .awaitTlm ∧ s.cfg.bidir = true ∧
      (flushPending (s.pend.ps + s.tim.bp) s).cmd.cnt ≠ 0 ∧
      (cmdTimeout s).lc = { v := true, endIdx := (flushPending (s.pend.ps + s.tim.bp) s).cmd.lastEnd }) := by
  simp only [cmdTimeout, restartWindow_phase, cmdClear_phase, closeFrame_phase, cmdFinalize_cfg, flushPending_cfg,
    restartWindow_lc, cmdClear_lc, closeFrame_lc, cmdFinalize_cmd]
  obtain ⟨-, hresult, -⟩ | ⟨hcnt, -, -⟩ := cmdFinalize_cases (flushPending (s.pend.ps + s.tim.bp) s)
  · left; simp [hresult]
  · by_cases hopen : cmdResult (flushPending (s.pend.ps + s.tim.bp) s) = .complete true ∧ s.cfg.bidir = true
    · have hpos : (flushPending (s.pend.ps + s.tim.bp) s).cmd.cnt ≠ 0 := by
        have : Config.cmdFrameBits = 16 := rfl
        omega
      exact .inr ⟨if_pos hopen, hopen.2, hpos, if_pos hopen.1⟩
    · exact .inl (if_neg hopen)

end Sys2Proof.Machine
end

section
/-! SUPPORT. The derived counts: their bounds (R26), and what a configuration without error gives (R134). -/

namespace Sys2Proof.Machine

/-- R130: no baud rate is below the slowest option's. -/
theorem le_baudOf (sel : BitVec 2) : 150000 ≤ baudOf sel := by revert sel; decide

/-- R26: the largest `BP`, at the largest sample rate and the slowest option. -/
theorem deriveTiming_bp_le (rate : BitVec 32) (sel : BitVec 2) : (deriveTiming rate sel).bp ≤ 28633 := by
  have hbaud := le_baudOf sel
  have hrate := rate.isLt
  calc rate.toNat / baudOf sel ≤ rate.toNat / 150000 := Nat.div_le_div_left hbaud (by decide)
    _ ≤ 28633 := by omega

/-- R132: `T` is three times `BP`. -/
theorem deriveTiming_t (rate : BitVec 32) (sel : BitVec 2) :
    (deriveTiming rate sel).t = 3 * (deriveTiming rate sel).bp := rfl

/-- R26: the largest `H`, at the largest sample rate and the slowest option. -/
theorem deriveTiming_h_le (rate : BitVec 32) (sel : BitVec 2) : (deriveTiming rate sel).h ≤ 11453 := by
  have hbaud := le_baudOf sel
  have hrate := rate.isLt
  calc rate.toNat * 4 / (2 * baudOf sel * 5) ≤ rate.toNat * 4 / 1500000 :=
        Nat.div_le_div_left (by omega) (by decide)
    _ ≤ 11453 := by omega

/-- R134: a bidirectional configuration without error has a telemetry half bit of at least one sample. -/
theorem h_pos_of_cfgError_eq_false {rate : BitVec 32} {tim : Timing} (h : cfgError rate true tim = false) :
    0 < tim.h := by
  simp only [cfgError, Bool.true_and, Bool.or_eq_false_iff, decide_eq_false_iff_not] at h
  omega

end Sys2Proof.Machine
end

section
/-! SUPPORT. The invariant of R35: it holds after reset, and the effect of each step operation keeps it. -/

namespace Sys2Proof.Safety

open Sys2Proof.Machine

/-! ### Moves that change no register of the invariant -/

/-- The invariant reads neither the moves to come, nor the ports, nor the outputs. -/
theorem Inv.of_registers {s : State} (h : Inv s) (inputs : List HostMove) (ports : Ports) (out : Outputs) :
    Inv { s with inputs := inputs, ports := ports, out := out } := { h with }

/-- R46: the invariant holds after a reset, whatever the configuration inputs are. -/
theorem inv_afterReset (ports : Ports) (inputs : List HostMove) : Inv (State.afterReset ports inputs) where
  timing := rfl
  haltedIff := rfl
  haltedAtReset _ := ⟨rfl, rfl⟩
  emptyOutsideFrame _ := rfl
  startOnlyInFrame := nofun
  midAfterStart := nofun
  startInWindow := nofun
  lineLevel := nofun
  bitsEnd h := absurd rfl h
  cmdCount := Nat.zero_le _
  window _ := .inr ⟨rfl, rfl, rfl, rfl⟩
  awaitTelemetry := nofun
  recvTelemetry := nofun

/-! ### What the invariant gives -/

section

variable {s t : State}

/-- R35: no index of the window lies in the future. -/
theorem Inv.lastEvt_le (h : Inv s) (hp : commandPhase s.phase = true) : s.lastEvt ≤ s.sidx := by
  obtain hlt | ⟨hl, hi, -⟩ := h.window hp <;> omega

/-- R35: while a bit is pending the window began before this sample. -/
theorem Inv.lastEvt_lt_of_pending (h : Inv s) (hv : s.pend.psV = true) : s.lastEvt < s.sidx := by
  have hp := h.startOnlyInFrame hv
  obtain hlt | ⟨-, -, hawait, -⟩ := h.window (by rw [hp]; rfl)
  · exact hlt
  · rw [hp] at hawait; cases hawait

/-- R134, R253: in a bidirectional block that runs, half a telemetry bit is at least one sample. -/
theorem Inv.h_pos (h : Inv s) (hrun : s.halted = false) (hb : s.cfg.bidir = true) : 0 < s.tim.h := by
  have herr := h.haltedIff
  rw [hrun, hb] at herr
  exact h_pos_of_cfgError_eq_false herr.symm

/-- R35: outside a frame nothing is pending and nothing is accumulated. -/
structure NoFrame (s : State) : Prop where
  psV : s.pend.psV = false
  pmV : s.pend.pmV = false
  cnt : s.cmd.cnt = 0

/-- R35: no phase but RECV_CMD has a frame. -/
theorem Inv.noFrame (h : Inv s) (hp : s.phase ≠ .recvCmd) : NoFrame s where
  psV := by
    by_contra hv
    exact hp (h.startOnlyInFrame (by simpa using hv))
  pmV := by
    by_contra hv
    exact hp (h.startOnlyInFrame (h.midAfterStart (by simpa using hv)).1)
  cnt := h.emptyOutsideFrame hp

/-- R250: the timeout leaves no frame. -/
theorem noFrame_cmdTimeout (s : State) : NoFrame (cmdTimeout s) where
  psV := by simp
  pmV := by simp
  cnt := by simp

/-! ### The clauses on the configuration -/

/-- R25: the derived counts stay those of the configuration. -/
theorem Inv.timing_of_same (h : Inv s) (hc : SameConfiguration s t) :
    t.tim = deriveTiming t.cfg.sampleRate t.cfg.baudSel := by
  rw [hc.tim, hc.cfg, h.timing]

/-- R27: `halted` stays the check of the configuration. -/
theorem Inv.haltedIff_of_same (h : Inv s) (hc : SameConfiguration s t) :
    t.halted = cfgError t.cfg.sampleRate t.cfg.bidir t.tim := by
  rw [hc.halted, hc.cfg, hc.tim, h.haltedIff]

/-- R27: a running block goes on running. -/
theorem not_halted_of_same (hrun : s.halted = false) (hc : SameConfiguration s t) {p : Prop} (ht : t.halted = true) : p := by
  rw [hc.halted, hrun] at ht
  cases ht

/-! ### The invariant of a state without a frame, by its phase -/

/-- With no frame, the clauses on the pending bit and the accumulator are void, and the three on the phases are left. -/
theorem Inv.of_noFrame (h : Inv s) (hrun : s.halted = false) (hc : SameConfiguration s t) (hn : NoFrame t)
    (hcommand : commandPhase t.phase = true → t.lastEvt < t.sidx)
    (hawait : t.phase = .awaitTlm → t.cfg.bidir = true ∧ t.lc.v = true ∧ t.lc.endIdx < t.sidx)
    (hrecv : t.phase = .recvTlm →
      t.cfg.bidir = true ∧ t.tlm.cnt ≤ Config.tlmFrameBits ∧ t.sidx ≤ t.tlm.next ∧
      (t.tlm.cnt < Config.tlmFrameBits → t.tlm.next = t.tlm.t0 + (2 * t.tlm.cnt + 1) * t.tim.h) ∧
      (t.tlm.cnt = Config.tlmFrameBits → t.tlm.next = t.tlm.t0 + 42 * t.tim.h)) : Inv t where
  timing := h.timing_of_same hc
  haltedIff := h.haltedIff_of_same hc
  haltedAtReset := not_halted_of_same hrun hc
  emptyOutsideFrame _ := hn.cnt
  startOnlyInFrame hv := by simp [hn.psV] at hv
  midAfterStart hv := by simp [hn.pmV] at hv
  startInWindow hv := by simp [hn.psV] at hv
  lineLevel hv := by simp [hn.psV] at hv
  bitsEnd hne := absurd hn.cnt hne
  cmdCount := by rw [hn.cnt]; exact Nat.zero_le _
  window hp := .inl (hcommand hp)
  awaitTelemetry := hawait
  recvTelemetry := hrecv

/-- R35 in AWAIT_CMD, but for the reset state: the window began before this sample. -/
theorem Inv.of_awaitCmd (h : Inv s) (hrun : s.halted = false) (hc : SameConfiguration s t) (hn : NoFrame t)
    (hp : t.phase = .awaitCmd) (hwindow : t.lastEvt < t.sidx) : Inv t :=
  h.of_noFrame hrun hc hn (fun _ => hwindow) (by simp [hp]) (by simp [hp])

/-- R35 in AWAIT_TLM: a valid frame was remembered, with its end in the past. -/
theorem Inv.of_awaitTlm (h : Inv s) (hrun : s.halted = false) (hc : SameConfiguration s t) (hn : NoFrame t)
    (hp : t.phase = .awaitTlm) (hb : t.cfg.bidir = true) (hv : t.lc.v = true) (hend : t.lc.endIdx < t.sidx) : Inv t :=
  h.of_noFrame hrun hc hn (by simp [hp, commandPhase]) (fun _ => ⟨hb, hv, hend⟩) (by simp [hp])

/-- R35 in RECV_TLM before the last bit: the cursor stands at the next sampling point, not in the past. -/
theorem Inv.of_recvTlm (h : Inv s) (hrun : s.halted = false) (hc : SameConfiguration s t) (hn : NoFrame t)
    (hp : t.phase = .recvTlm) (hb : t.cfg.bidir = true) (hcnt : t.tlm.cnt ≤ Config.tlmFrameBits)
    (hnext : t.sidx ≤ t.tlm.next)
    (hpoint : t.tlm.cnt < Config.tlmFrameBits → t.tlm.next = t.tlm.t0 + (2 * t.tlm.cnt + 1) * t.tim.h)
    (hfinish : t.tlm.cnt = Config.tlmFrameBits → t.tlm.next = t.tlm.t0 + 42 * t.tim.h) : Inv t :=
  h.of_noFrame hrun hc hn (by simp [hp, commandPhase]) (by simp [hp])
    (fun _ => ⟨hb, hcnt, hnext, hpoint, hfinish⟩)

/-! ### The bit that a flush appends -/

/-- R35: if the flush's boundary lies in the past of `b`, every accumulated bit does. -/
theorem Inv.flushPending_lastEnd_le (h : Inv s) {e b : Nat} (hold : s.lastEvt ≤ b) (hnew : s.pend.psV = true → e ≤ b)
    (hne : (flushPending e s).cmd.cnt ≠ 0) : (flushPending e s).cmd.lastEnd ≤ b := by
  rw [flushPending_cmd] at hne ⊢
  split at hne
  next ht => rw [if_pos ht]; exact hnew ht.1
  next ht => rw [if_neg ht]; exact (h.bitsEnd hne).trans hold

/-- R132, R250: at the timeout a pending bit's boundary `ps + BP` is not in the future, `T` being three times `BP`. -/
theorem Inv.timeout_boundary_le (h : Inv s) (hdue : s.sidx - s.lastEvt = s.tim.t) (hv : s.pend.psV = true) :
    s.pend.ps + s.tim.bp ≤ s.sidx := by
  have hps := h.startInWindow hv
  have hlt := h.lastEvt_lt_of_pending hv
  have ht : s.tim.t = 3 * s.tim.bp := by rw [h.timing]; rfl
  omega

/-! ### Each effect, followed by the epilogue -/

/-- The epilogue touches no configuration register. -/
theorem sameConfiguration_epilogue (hc : SameConfiguration s t) : SameConfiguration s (epilogue t) :=
  ⟨hc.inputs, hc.ports, hc.cfg, hc.tim, hc.halted⟩

/-- R243: the epilogue begins no frame. -/
theorem noFrame_epilogue (h : NoFrame s) : NoFrame (epilogue s) := ⟨h.psV, h.pmV, h.cnt⟩

/-- R248, R265, R266: a sample that only passes keeps the invariant, if it brings no edge under a pending bit and the cursor is
not due at it. -/
theorem Inv.epilogue (h : Inv s) (hrun : s.halted = false) (hedge : s.pend.psV = true → edgeNow s = false)
    (hdue : s.phase = .recvTlm → s.sidx ≠ s.tlm.next) : Inv (epilogue s) where
  timing := h.timing
  haltedIff := h.haltedIff
  haltedAtReset ht := by simp [hrun] at ht
  emptyOutsideFrame := h.emptyOutsideFrame
  startOnlyInFrame := h.startOnlyInFrame
  midAfterStart := h.midAfterStart
  startInWindow := h.startInWindow
  lineLevel hv := by
    obtain ⟨hvalid, hlevel⟩ := h.lineLevel hv
    exact ⟨rfl, (din_of_no_edge hvalid (hedge hv)).trans hlevel⟩
  bitsEnd := h.bitsEnd
  cmdCount := h.cmdCount
  window hp := .inl (Nat.lt_succ_of_le (h.lastEvt_le hp))
  awaitTelemetry hp := by
    obtain ⟨hb, hv, hend⟩ := h.awaitTelemetry hp
    exact ⟨hb, hv, Nat.lt_succ_of_lt hend⟩
  recvTelemetry hp := by
    obtain ⟨hb, hcnt, hnext, hgrid⟩ := h.recvTelemetry hp
    exact ⟨hb, hcnt, Nat.lt_of_le_of_ne hnext (hdue hp), hgrid⟩

/-- R244: a start edge begins a bit at this sample, with the line at the duty level. -/
theorem Inv.epilogue_cmdStartEdge (h : Inv s) (hrun : s.halted = false) (hp : commandPhase s.phase = true)
    (hedge : startEdgeNow s = true) : Inv (Machine.epilogue (cmdStartEdge s)) := by
  have hc := sameConfiguration_epilogue ((SelectedEffect.startEdge hp hedge).sameConfiguration s)
  exact
    { timing := h.timing_of_same hc
      haltedIff := h.haltedIff_of_same hc
      haltedAtReset := not_halted_of_same hrun hc
      emptyOutsideFrame := fun hne => absurd (by simp [cmdStartEdge_eq]) hne
      startOnlyInFrame := fun _ => by simp [cmdStartEdge_eq]
      midAfterStart := by simp [cmdStartEdge_eq]
      startInWindow := by simp [cmdStartEdge_eq]
      lineLevel := fun _ => by simp [cmdStartEdge_eq, din_of_startEdgeNow hedge]
      bitsEnd := by
        simpa [cmdStartEdge_eq] using h.flushPending_lastEnd_le (h.lastEvt_le hp) (fun _ => le_rfl)
      cmdCount := by simpa [cmdStartEdge_eq] using flushPending_cnt_le h.cmdCount
      window := fun _ => .inl (by simp [cmdStartEdge_eq])
      awaitTelemetry := by simp [cmdStartEdge_eq]
      recvTelemetry := by simp [cmdStartEdge_eq] }

/-- R246: the pending bit after an end edge has its mid after its start and not after this sample. -/
theorem Inv.cmdEndEdge_mid (h : Inv s) (hp : commandPhase s.phase = true)
    (hv : (cmdEndEdge s).pend.pmV = true) :
    (cmdEndEdge s).pend.psV = true ∧ (cmdEndEdge s).pend.ps < (cmdEndEdge s).pend.pm ∧
      (cmdEndEdge s).pend.pm ≤ s.sidx := by
  simp only [cmdEndEdge_eq] at hv ⊢
  split at hv
  next ht =>
    rw [if_pos ht]
    exact ⟨ht.1, (h.startInWindow ht.1).trans_lt (h.lastEvt_lt_of_pending ht.1), le_rfl⟩
  next ht =>
    rw [if_neg ht]
    obtain ⟨hstart, hlt, hle⟩ := h.midAfterStart hv
    exact ⟨hstart, hlt, hle.trans (h.lastEvt_le hp)⟩

/-- R246: an end edge gives a pending bit its mid and leaves the line at the other level. -/
theorem Inv.epilogue_cmdEndEdge (h : Inv s) (hrun : s.halted = false) (hp : commandPhase s.phase = true)
    (hedge : endEdgeNow s = true) : Inv (Machine.epilogue (cmdEndEdge s)) := by
  have hc := sameConfiguration_epilogue ((SelectedEffect.endEdge hp hedge).sameConfiguration s)
  have hle := h.lastEvt_le hp
  obtain ⟨hpsV, hps, hpmV⟩ := cmdEndEdge_pending s
  exact
    { timing := h.timing_of_same hc
      haltedIff := h.haltedIff_of_same hc
      haltedAtReset := not_halted_of_same hrun hc
      emptyOutsideFrame := by simpa using h.emptyOutsideFrame
      startOnlyInFrame := fun hv => by simpa using h.startOnlyInFrame (hpsV.symm.trans hv)
      midAfterStart := by simpa using h.cmdEndEdge_mid hp
      startInWindow := fun hv => by simpa [hps] using (h.startInWindow (hpsV.symm.trans hv)).trans hle
      lineLevel := fun hv => by simp [hpmV (hpsV.symm.trans hv), din_of_endEdgeNow hedge]
      bitsEnd := fun hne => by simpa using (h.bitsEnd (by simpa using hne)).trans hle
      cmdCount := by simpa using h.cmdCount
      window := fun _ => .inl (by simp)
      awaitTelemetry := fun hw => by simp_all [commandPhase]
      recvTelemetry := fun hw => by simp_all [commandPhase] }

/-- R250: the timeout ends the frame; the wait it may open has its origin in the past. -/
theorem Inv.epilogue_cmdTimeout (h : Inv s) (hrun : s.halted = false) (hp : commandPhase s.phase = true)
    (hquiet : edgeNow s = false) (hdue : s.sidx - s.lastEvt = s.tim.t) : Inv (Machine.epilogue (cmdTimeout s)) := by
  have hc := sameConfiguration_epilogue ((SelectedEffect.timeout hp hquiet hdue).sameConfiguration s)
  have hn := noFrame_epilogue (noFrame_cmdTimeout s)
  obtain hcmd | ⟨hawait, hb, hne, hlc⟩ := cmdTimeout_phase_cases s
  · exact h.of_awaitCmd hrun hc hn hcmd (by simp)
  · have hend := h.flushPending_lastEnd_le (h.lastEvt_le hp) (h.timeout_boundary_le hdue) hne
    refine h.of_awaitTlm hrun hc hn hawait (by rw [hc.cfg, hb]) (by simp [hlc]) ?_
    simpa [hlc] using Nat.lt_succ_of_le hend

/-- R261: giving the wait up leaves no frame and a new window. -/
theorem Inv.epilogue_tlmExpire (h : Inv s) (hrun : s.halted = false) (hp : s.phase = .awaitTlm) :
    Inv (Machine.epilogue (tlmExpire s)) := by
  have hn := h.noFrame (by simp [hp])
  exact h.of_awaitCmd hrun ⟨rfl, rfl, rfl, rfl, rfl⟩ ⟨hn.psV, hn.pmV, hn.cnt⟩ rfl (Nat.lt_succ_self _)

/-- R262: the cursor of a new telemetry frame stands at its first sampling point, at least one sample away. -/
theorem Inv.epilogue_tlmStart (h : Inv s) (hrun : s.halted = false) (hp : s.phase = .awaitTlm) :
    Inv (Machine.epilogue (tlmStart s)) := by
  have hn := h.noFrame (by simp [hp])
  obtain ⟨hb, -, -⟩ := h.awaitTelemetry hp
  have hpos := h.h_pos hrun hb
  refine h.of_recvTlm hrun ⟨rfl, rfl, rfl, rfl, rfl⟩ ⟨hn.psV, hn.pmV, hn.cnt⟩ rfl hb (Nat.zero_le _) ?_ ?_ nofun
  · simpa [tlmStart] using Nat.succ_le_of_lt hpos
  · simp [tlmStart]

/-- R264: from one sampling point the cursor moves to the next on the grid, or to the frame's end. -/
theorem Inv.epilogue_tlmSample (h : Inv s) (hrun : s.halted = false) (hp : s.phase = .recvTlm)
    (hdue : s.sidx = s.tlm.next) (hcnt : s.tlm.cnt ≠ Config.tlmFrameBits) :
    Inv (Machine.epilogue (tlmSample s)) := by
  have hn := h.noFrame (by simp [hp])
  obtain ⟨hb, hle, -, hgrid, -⟩ := h.recvTelemetry hp
  have hlt : s.tlm.cnt < Config.tlmFrameBits := Nat.lt_of_le_of_ne hle hcnt
  have hpoint : s.sidx = s.tlm.t0 + (2 * s.tlm.cnt + 1) * s.tim.h := hdue.trans (hgrid hlt)
  have hpos := h.h_pos hrun hb
  rw [tlmSample_eq]
  refine h.of_recvTlm hrun ⟨rfl, rfl, rfl, rfl, rfl⟩ ⟨hn.psV, hn.pmV, hn.cnt⟩ hp hb hlt ?_ ?_ ?_
  · simp only [epilogue_sidx, epilogue_tlm, tlmAdvance_sidx, tlmAdvance_tlm, tlmAppend_sidx, emitBit_sidx, tlmAppend_tim,
      emitBit_tim]
    split <;> omega
  · intro hlt'
    simp only [epilogue_tlm, tlmAdvance_tlm] at hlt' ⊢
    rw [if_pos hlt', hpoint]
    simp only [tlmAppend_tlm, tlmAppend_tim, emitBit_tlm, emitBit_tim, epilogue_tim, tlmAdvance_tim]
    ring
  · intro heq
    simp only [epilogue_tlm, tlmAdvance_tlm] at heq ⊢
    have hlast : s.tlm.cnt = 20 := Nat.succ_injective heq
    rw [if_neg heq.not_lt, hpoint, hlast]
    simp only [tlmAppend_tlm, tlmAppend_tim, emitBit_tlm, emitBit_tim, epilogue_tim, tlmAdvance_tim]
    ring

/-- R267: the frame's end leaves no frame and a new window. -/
theorem Inv.epilogue_tlmFinish (h : Inv s) (hrun : s.halted = false) (hp : s.phase = .recvTlm) :
    Inv (Machine.epilogue (tlmFinish s)) := by
  have hn := h.noFrame (by simp [hp])
  have hc : SameConfiguration s (Machine.epilogue (tlmFinish s)) := by constructor <;> simp [tlmFinish]
  refine h.of_awaitCmd hrun hc ?_ (by simp [tlmFinish]) (by simp [tlmFinish])
  exact ⟨by simp [tlmFinish, hn.psV], by simp [tlmFinish, hn.pmV], by simp [tlmFinish, hn.cnt]⟩

end

/-! ### Every operation, and every step -/

/-- R35: every operation that a sample selects keeps the invariant. -/
theorem Inv.epilogue_effect {s : State} {body : State → State} (h : Inv s) (hrun : s.halted = false)
    (heffect : SelectedEffect s body) : Inv (Machine.epilogue (body s)) := by
  cases heffect with
  | startEdge command edge => exact h.epilogue_cmdStartEdge hrun command edge
  | endEdge command edge => exact h.epilogue_cmdEndEdge hrun command edge
  | timeout command noEdge due => exact h.epilogue_cmdTimeout hrun command noEdge due
  | idle command noEdge => exact h.epilogue hrun (fun _ => noEdge) (fun hp => by simp [hp, commandPhase] at command)
  | expire await => exact h.epilogue_tlmExpire hrun await
  | start await => exact h.epilogue_tlmStart hrun await
  | wait await =>
    have hn := h.noFrame (by simp [await])
    exact h.epilogue hrun (by simp [hn.psV]) (by simp [await])
  | sample receive due notFull => exact h.epilogue_tlmSample hrun receive due notFull
  | finish receive => exact h.epilogue_tlmFinish hrun receive
  | skip receive notDue =>
    have hn := h.noFrame (by simp [receive])
    exact h.epilogue hrun (by simp [hn.psV]) (fun _ => notDue)

/-- R35, R240: a step operation with its epilogue and its outputs keeps the invariant. -/
theorem Inv.runOperation {s : State} {body : State → State} (h : Inv s) (hrun : s.halted = false)
    (heffect : SelectedEffect s body) : Inv (runOperation body s) := by
  have hbegin : Inv (beginStep s) := h.of_registers _ _ _
  have hbody : Inv (Machine.epilogue (body (beginStep s))) := hbegin.epilogue_effect hrun heffect.beginStep
  exact hbody.of_registers _ _ _

/-- R35: every step that gives a next state keeps the invariant. -/
theorem Inv.step {s t : State} (h : Inv s) (hstep : step s = .next t) : Inv t := by
  obtain ⟨-, rfl⟩ | ⟨cfg, rest, -, rfl⟩ | ⟨din, rest, -, -, rfl⟩ | ⟨din, rest, body, -, hrun, -, heffect, rfl⟩ :=
    step_next_effect hstep
  · exact h
  · exact inv_afterReset _ _
  · exact h.of_registers _ _ _
  · have hpresented : Inv (withSample din rest s) := h.of_registers _ _ _
    exact hpresented.runOperation hrun heffect

end Sys2Proof.Safety
end

section
/-! SUPPORT. The index bounds of R26: they hold after reset, and the effect of each step operation keeps them. -/

namespace Sys2Proof.Machine

/-- R176: emitting a command frame changes the outputs alone. -/
theorem emitCmdFrame_eq (v : BitVec 11) (t : BitVec 1) (c : Nibble) (d : Data12) (s : State) :
    emitCmdFrame v t c d s = { s with out := (emitCmdFrame v t c d s).out } := by
  unfold emitCmdFrame; dsimp only; split <;> rfl

/-- R185: a finished telemetry frame is reported as valid with its span, and no other record is touched. -/
theorem tlmFinalize_kept (i : Nat) (s : State) :
    (tlmFinalize i s).out.bit = s.out.bit ∧ (tlmFinalize i s).out.cmd = s.out.cmd ∧
    (tlmFinalize i s).out.evTlmExpired = s.out.evTlmExpired ∧ (tlmFinalize i s).out.tlm.v = true ∧
    (tlmFinalize i s).out.tlm.startIdx = s.tlm.t0 ∧ (tlmFinalize i s).out.tlm.endIdx = i := by
  simp [tlmFinalize, decodeFrame_kept]

end Sys2Proof.Machine

namespace Sys2Proof.Safety

open Sys2Proof.Machine

section

variable {s : State}

/-- R46: every index is 0 after a reset. -/
theorem indexBounds_afterReset (ports : Ports) (inputs : List HostMove) : IndexBounds (State.afterReset ports inputs) where
  sample := Nat.zero_le _
  start := le_rfl
  mid := le_rfl
  event := le_rfl
  frameStart := le_rfl
  frameEnd := Nat.zero_le _
  lastFrameEnd := Nat.zero_le _
  telemetryStart := le_rfl
  cursor := Nat.zero_le _
  bitRecord := ⟨le_rfl, le_rfl, Nat.zero_le _⟩
  cmdRecord := ⟨le_rfl, Nat.zero_le _⟩
  tlmRecord := ⟨le_rfl, le_rfl⟩

/-- The bounds read neither the moves to come nor the ports, and of the outputs the three records alone. -/
theorem IndexBounds.of_registers (h : IndexBounds s) (inputs : List HostMove) (ports : Ports) {out : Outputs}
    (hbit : out.bit = s.out.bit) (hcmd : out.cmd = s.out.cmd) (htlm : out.tlm = s.out.tlm) :
    IndexBounds { s with inputs := inputs, ports := ports, out := out } :=
  { h with
    bitRecord := by simp only [hbit]; exact h.bitRecord
    cmdRecord := by simp only [hcmd]; exact h.cmdRecord
    tlmRecord := by simp only [htlm]; exact h.tlmRecord }

/-- R40: an invalid record's indices are 0, so with all records invalid the registers' bounds are left. -/
theorem IndexBounds.of_quiet (h : IndexBounds s) (err : ErrCode) :
    IndexBounds { s with out := { Outputs.quiet s.phase s.halted with errCode := err } } :=
  { h with
    bitRecord := ⟨Nat.zero_le _, Nat.zero_le _, Nat.zero_le _⟩
    cmdRecord := ⟨Nat.zero_le _, Nat.zero_le _⟩
    tlmRecord := ⟨Nat.zero_le _, Nat.zero_le _⟩ }

/-- R243: the bounds grow with the sample index, which stays within the limit below which a sample is taken. -/
theorem IndexBounds.epilogue (h : IndexBounds s) (hlim : s.sidx < Config.sampleLimit) : IndexBounds (epilogue s) := by
  have hsidx : s.sidx ≤ s.sidx + 1 := Nat.le_succ _
  have hbound : indexBound s ≤ indexBound (Machine.epilogue s) := Nat.add_le_add_right hsidx _
  obtain ⟨hbstart, hbmid, hbend⟩ := h.bitRecord
  obtain ⟨hcstart, hcend⟩ := h.cmdRecord
  obtain ⟨htstart, htend⟩ := h.tlmRecord
  exact
    { sample := hlim
      start := h.start.trans hsidx
      mid := h.mid.trans hsidx
      event := h.event.trans hsidx
      frameStart := h.frameStart.trans hsidx
      frameEnd := h.frameEnd.trans hbound
      lastFrameEnd := h.lastFrameEnd.trans hbound
      telemetryStart := h.telemetryStart.trans hsidx
      cursor := h.cursor.trans hbound
      bitRecord := ⟨hbstart.trans hsidx, hbmid.trans hsidx, hbend.trans hbound⟩
      cmdRecord := ⟨hcstart.trans hsidx, hcend.trans hbound⟩
      tlmRecord := ⟨htstart.trans hsidx, htend.trans hsidx⟩ }

/-! ### The shared operations -/

/-- R26: this sample's own index is within the bound. -/
theorem sidx_le_indexBound (s : State) : s.sidx ≤ indexBound s := Nat.le_add_right _ _

/-- R26: a count of less than 2^17 past an index that is not in the future is within the bound. -/
theorem add_le_indexBound {i n : Nat} (hi : i ≤ s.sidx) (hn : n ≤ 2 ^ 17 - 1) : i + n ≤ indexBound s :=
  Nat.add_le_add hi hn

/-- R244, R250: a flush with a boundary within the bound. -/
theorem IndexBounds.flushPending (h : IndexBounds s) {e : Nat} (he : e ≤ indexBound s) :
    IndexBounds (flushPending e s) := by
  obtain ⟨-, hf⟩ | ⟨-, hf⟩ := flushPending_cases e s
  · rw [hf]
    exact { h with frameEnd := he, bitRecord := ⟨h.start, h.mid, he⟩ }
  · rwa [hf]

/-- R176: a frame's record has the span that the accumulator holds. -/
theorem IndexBounds.cmdFinalize (h : IndexBounds s) : IndexBounds (cmdFinalize s) := by
  obtain ⟨-, -, hf⟩ | ⟨-, -, hf⟩ := cmdFinalize_cases s
  · rwa [hf]
  · rw [hf, emitCmdFrame_eq, emitCmdFrame_out]
    exact { h with cmdRecord := ⟨h.frameStart, h.frameEnd⟩ }

/-- R250: the frame remembered ends where the accumulator's last bit did. -/
theorem IndexBounds.closeFrame (h : IndexBounds s) (r : CmdResult) : IndexBounds (closeFrame r s) := by
  match r with
  | .incomplete => exact { h with }
  | .complete false => exact { h with }
  | .complete true => exact { h with lastFrameEnd := h.frameEnd }

/-! ### The effects -/

/-- R244: every index that a start edge writes is this sample's. -/
theorem IndexBounds.cmdStartEdge (h : IndexBounds s) : IndexBounds (cmdStartEdge s) := by
  have hflush := h.flushPending (sidx_le_indexBound s)
  have hsidx := flushPending_sidx s.sidx s
  rw [cmdStartEdge_eq]
  exact
    { hflush with
      start := hsidx.ge
      mid := h.mid.trans hsidx.ge
      event := hsidx.ge
      frameStart := by
        dsimp only
        split
        · exact hsidx.ge
        · exact hflush.frameStart }

/-- R246: so is every index that an end edge writes. -/
theorem IndexBounds.cmdEndEdge (h : IndexBounds s) : IndexBounds (cmdEndEdge s) := by
  rw [cmdEndEdge_eq]
  by_cases ht : s.pend.psV = true ∧ s.pend.pmV = false
  · simp only [if_pos ht]
    exact { h with mid := le_rfl, event := le_rfl }
  · simp only [if_neg ht]
    exact { h with event := le_rfl }

/-- R250: the last bit's boundary is a bit period past its start. -/
theorem IndexBounds.cmdTimeout (h : IndexBounds s) (hbp : s.tim.bp ≤ 28633) : IndexBounds (cmdTimeout s) := by
  have hflush := h.flushPending (add_le_indexBound h.start (hbp.trans (by decide)))
  have hclosed := hflush.cmdFinalize.closeFrame (cmdResult (Machine.flushPending (s.pend.ps + s.tim.bp) s))
  exact { hclosed with event := by simp }

/-- R261: the window of the command phase begins at this sample. -/
theorem IndexBounds.tlmExpire (h : IndexBounds s) : IndexBounds (tlmExpire s) := { h with event := le_rfl }

/-- R262: the cursor is half a bit past this sample. -/
theorem IndexBounds.tlmStart (h : IndexBounds s) (hh : s.tim.h ≤ 11453) : IndexBounds (tlmStart s) :=
  { h with telemetryStart := le_rfl, cursor := add_le_indexBound le_rfl (hh.trans (by decide)) }

/-- R264: the bit lies half a bit on either side of its sampling point, and the cursor moves at most a whole bit. -/
theorem IndexBounds.tlmSample (h : IndexBounds s) (hh : s.tim.h ≤ 11453)
    (hpoint : s.sidx = s.tlm.t0 + (2 * s.tlm.cnt + 1) * s.tim.h) : IndexBounds (tlmSample s) := by
  have hstart : s.tlm.t0 + 2 * s.tlm.cnt * s.tim.h ≤ s.sidx := by
    rw [hpoint]; gcongr; exact Nat.le_succ _
  have hend : s.tlm.t0 + (2 * s.tlm.cnt + 2) * s.tim.h = s.sidx + s.tim.h := by rw [hpoint]; ring
  rw [tlmSample_eq]
  exact
    { h with
      cursor := by
        simp only [tlmAdvance_tlm, tlmAppend_tim, emitBit_tim]
        split
        · exact add_le_indexBound le_rfl (by omega)
        · exact add_le_indexBound le_rfl (by omega)
      bitRecord := ⟨hstart, Nat.zero_le _, hend.trans_le (add_le_indexBound le_rfl (hh.trans (by decide)))⟩ }

/-- R267: the frame's record spans from its first edge to this sample. -/
theorem IndexBounds.tlmFinish (h : IndexBounds s) : IndexBounds (tlmFinish s) := by
  obtain ⟨hbit, hcmd, -, -, hstart, hend⟩ := tlmFinalize_kept s.sidx s
  have hbound : indexBound (Machine.tlmFinish s) = indexBound s := by simp [indexBound, Machine.tlmFinish]
  exact
    { sample := by simpa [Machine.tlmFinish] using h.sample
      start := by simpa [Machine.tlmFinish] using h.start
      mid := by simpa [Machine.tlmFinish] using h.mid
      event := by simp [Machine.tlmFinish]
      frameStart := by simpa [Machine.tlmFinish] using h.frameStart
      frameEnd := by rw [hbound]; simpa [Machine.tlmFinish] using h.frameEnd
      lastFrameEnd := by rw [hbound]; simpa [Machine.tlmFinish] using h.lastFrameEnd
      telemetryStart := by simpa [Machine.tlmFinish] using h.telemetryStart
      cursor := by rw [hbound]; simpa [Machine.tlmFinish] using h.cursor
      bitRecord := by rw [hbound]; simpa [Machine.tlmFinish, hbit] using h.bitRecord
      cmdRecord := by rw [hbound]; simpa [Machine.tlmFinish, hcmd] using h.cmdRecord
      tlmRecord := by simpa [Machine.tlmFinish, hstart, hend] using h.telemetryStart }

/-! ### Every operation, and every step -/

/-- R26: every operation that a sample selects keeps the bounds. -/
theorem IndexBounds.effect {body : State → State} (h : IndexBounds s) (hinv : Inv s)
    (heffect : SelectedEffect s body) : IndexBounds (body s) := by
  have hbp : s.tim.bp ≤ 28633 := by rw [hinv.timing]; exact deriveTiming_bp_le _ _
  have hh : s.tim.h ≤ 11453 := by rw [hinv.timing]; exact deriveTiming_h_le _ _
  cases heffect with
  | startEdge => exact h.cmdStartEdge
  | endEdge => exact h.cmdEndEdge
  | timeout => exact h.cmdTimeout hbp
  | expire => exact h.tlmExpire
  | start => exact h.tlmStart hh
  | sample receive due notFull =>
    obtain ⟨-, hle, -, hgrid, -⟩ := hinv.recvTelemetry receive
    exact h.tlmSample hh (due.trans (hgrid (Nat.lt_of_le_of_ne hle notFull)))
  | finish => exact h.tlmFinish
  | idle | wait | skip => exact h

/-- R26, R240: a step operation with its epilogue and its outputs keeps the bounds. -/
theorem IndexBounds.runOperation {body : State → State} (h : IndexBounds s) (hinv : Inv s)
    (hlim : s.sidx < Config.sampleLimit) (heffect : SelectedEffect s body) : IndexBounds (runOperation body s) := by
  have hbegin : IndexBounds (beginStep s) := h.of_quiet .none
  have hbody := hbegin.effect (hinv.of_registers _ _ _) heffect.beginStep
  have hnext := hbody.epilogue ((heffect.sidx_eq (beginStep s)).trans_lt hlim)
  exact hnext.of_registers _ _ rfl rfl rfl

/-- R26: every step that gives a next state keeps the bounds. -/
theorem IndexBounds.step {t : State} (h : IndexBounds s) (hinv : Inv s) (hstep : step s = .next t) : IndexBounds t := by
  obtain ⟨-, rfl⟩ | ⟨cfg, rest, -, rfl⟩ | ⟨din, rest, -, -, rfl⟩ | ⟨din, rest, body, -, -, hlim, heffect, rfl⟩ :=
    step_next_effect hstep
  · exact h
  · exact indexBounds_afterReset _ _
  · exact (h.of_quiet .configurationError).of_registers _ _ rfl rfl rfl
  · have hpresented : IndexBounds (withSample din rest s) := h.of_registers _ _ rfl rfl rfl
    exact hpresented.runOperation (hinv.of_registers _ _ _) hlim heffect

/-- R26: within the bounds, the sample index and the largest index that may stand anywhere fit in 64 bits. -/
theorem IndexBounds.fit (h : IndexBounds s) : s.sidx < 2 ^ 64 ∧ indexBound s < 2 ^ 64 := by
  have hle : s.sidx ≤ 2 ^ 64 - 2 ^ 17 := h.sample
  constructor
  · omega
  · unfold indexBound; omega

end

end Sys2Proof.Safety
end

section
/-! SUPPORT. What a step drives: the records, the error and the status (R40, R44, R45, R302, R305). -/

namespace Sys2Proof.Machine

open Sys2Proof.Safety

/-! ### The errors of the telemetry decode -/

/-- R213: the groups raise GcrDecodeError or nothing. -/
theorem driveGroups_errCode (g0 g1 g2 g3 : GcrCode) (s : State) :
    (driveGroups g0 g1 g2 g3 s).out.errCode = s.out.errCode ∨
    (driveGroups g0 g1 g2 g3 s).out.errCode = .gcrDecodeError := by
  obtain ⟨n0, n1, n2, n3, h0, h1, h2, h3⟩ | ⟨j, p, -, hfirst⟩ := groups_cases g0 g1 g2 g3
  · left; rw [driveGroups_valid h0 h1 h2 h3]
  · right; rw [driveGroups_invalid hfirst]

/-- R217: the checksum raises ChecksumMismatch or nothing. -/
theorem driveDecoded_errCode (p : Data12) (c : Nibble) (s : State) :
    (driveDecoded p c s).out.errCode = s.out.errCode ∨ (driveDecoded p c s).out.errCode = .checksumMismatch := by
  rw [driveDecoded_out]
  exact ite_eq_or_eq _ _ _

/-- R219, R221: the reading of a payload raises nothing. -/
@[simp] theorem interpretPayload_errCode (p : Data12) (s : State) :
    (interpretPayload p s).out.errCode = s.out.errCode := by
  unfold interpretPayload; split <;> rfl

/-- R185, R304: a finished telemetry frame raises GcrDecodeError, ChecksumMismatch or nothing. -/
theorem decodeFrame_errCode (raw : Raw21) (s : State) :
    (decodeFrame raw s).out.errCode = s.out.errCode ∨ (decodeFrame raw s).out.errCode = .gcrDecodeError ∨
    (decodeFrame raw s).out.errCode = .checksumMismatch := by
  have hgroups (d : Data20) := driveGroups_errCode (group0 d) (group1 d) (group2 d) (group3 d) (driveRaw raw s)
  unfold decodeFrame; dsimp only; split
  · rw [interpretPayload_errCode]
    obtain hsame | hbad := driveDecoded_errCode _ _ _
    · rw [hsame]
      exact (hgroups _).imp_right .inl
    · exact .inr (.inr hbad)
  · exact (hgroups _).imp_right .inl

/-! ### The records and the error -/

/-- R40, R45, R302, R305: every invalid record is all zeros, at most one frame record is valid, and the error is none of the two
that the block never drives. -/
structure RecordsWellFormed (o : Outputs) : Prop where
  bit : o.bit.v = false → o.bit = .invalid
  cmd : o.cmd.v = false → o.cmd = .invalid
  tlm : o.tlm.v = false → o.tlm = .invalid
  oneFrame : ¬(o.cmd.v = true ∧ o.tlm.v = true)
  noBitTimingError : o.errCode ≠ .bitTimingError
  noFrameIncomplete : o.errCode ≠ .frameIncomplete

/-- R240: with no record valid and no error. -/
theorem recordsWellFormed_quiet (p : Phase) (h : Bool) : RecordsWellFormed (Outputs.quiet p h) where
  bit _ := rfl
  cmd _ := rfl
  tlm _ := rfl
  oneFrame := nofun
  noBitTimingError := nofun
  noFrameIncomplete := nofun

/-- R300: an error that the block does drive. -/
theorem RecordsWellFormed.raise {o : Outputs} (h : RecordsWellFormed o) {e : ErrCode} (hbit : e ≠ .bitTimingError)
    (hframe : e ≠ .frameIncomplete) : RecordsWellFormed { o with errCode := e } :=
  { h with noBitTimingError := hbit, noFrameIncomplete := hframe }

/-- R44: the status says nothing of the records. -/
theorem RecordsWellFormed.status {o : Outputs} (h : RecordsWellFormed o) (p : Phase) (b : Bool) :
    RecordsWellFormed { o with stPhase := p, stHalted := b } := { h with }

/-- R244: the flush's record is valid. -/
theorem RecordsWellFormed.flushPending {e : Nat} {s : State} (h : RecordsWellFormed s.out) :
    RecordsWellFormed (flushPending e s).out := by
  rw [flushPending_out]
  split
  · exact { h with bit := nofun }
  · exact h

/-- R244: the flush drives no frame record. -/
@[simp] theorem flushPending_out_tlm (e : Nat) (s : State) : (flushPending e s).out.tlm = s.out.tlm := by
  rw [flushPending_out]; split <;> rfl

/-- R45: a valid command record beside an invalid telemetry record, with an error that the block does drive. -/
theorem RecordsWellFormed.withCmdRecord {o : Outputs} (h : RecordsWellFormed o) (htlm : o.tlm.v = false) {r : CmdRecord}
    {e : ErrCode} (hr : r.v = true) (hbit : e ≠ .bitTimingError) (hframe : e ≠ .frameIncomplete) :
    RecordsWellFormed { o with cmd := r, errCode := e } :=
  { h with
    cmd := by simp [hr]
    oneFrame := by simp [htlm]
    noBitTimingError := hbit
    noFrameIncomplete := hframe }

/-- R176: a command frame's record is valid, and goes with no error but ChecksumMismatch. -/
theorem RecordsWellFormed.cmdFinalize {s : State} (h : RecordsWellFormed s.out) (htlm : s.out.tlm.v = false) :
    RecordsWellFormed (cmdFinalize s).out := by
  obtain ⟨-, -, hf⟩ | ⟨-, -, hf⟩ := cmdFinalize_cases s
  · rwa [hf]
  · rw [hf, emitCmdFrame_out]
    split
    · exact h.withCmdRecord htlm (by rfl) h.noBitTimingError h.noFrameIncomplete
    · exact h.withCmdRecord htlm (by rfl) (by nofun) (by nofun)

/-- R185: a telemetry frame's record is valid, and goes with no error but the two of its decode. -/
theorem RecordsWellFormed.tlmFinalize {i : Nat} {s : State} (h : RecordsWellFormed s.out) (hcmd : s.out.cmd.v = false) :
    RecordsWellFormed (tlmFinalize i s).out := by
  obtain ⟨hbit, hcmd', -, hv, -, -⟩ := tlmFinalize_kept i s
  have herr : (Machine.tlmFinalize i s).out.errCode = s.out.errCode ∨
      (Machine.tlmFinalize i s).out.errCode = .gcrDecodeError ∨
      (Machine.tlmFinalize i s).out.errCode = .checksumMismatch := decodeFrame_errCode _ _
  exact
    { bit := by rw [hbit]; exact h.bit
      cmd := by rw [hcmd']; exact h.cmd
      tlm := by simp [hv]
      oneFrame := by simp [hcmd', hcmd]
      noBitTimingError := by
        obtain herr | herr | herr := herr <;> rw [herr]
        · exact h.noBitTimingError
        · nofun
        · nofun
      noFrameIncomplete := by
        obtain herr | herr | herr := herr <;> rw [herr]
        · exact h.noFrameIncomplete
        · nofun
        · nofun }

/-- R240 to R267: an operation that begins with no record valid and no error leaves well-formed records. -/
theorem SelectedEffect.recordsWellFormed {s : State} {body : State → State} (heffect : SelectedEffect s body)
    (hout : s.out = Outputs.quiet s.phase s.halted) : RecordsWellFormed (body s).out := by
  have hquiet : RecordsWellFormed s.out := hout ▸ recordsWellFormed_quiet _ _
  cases heffect with
  | startEdge =>
    rw [cmdStartEdge_eq]
    exact hquiet.flushPending
  | endEdge => simpa using hquiet
  | timeout =>
    have htlm : (flushPending (s.pend.ps + s.tim.bp) s).out.tlm.v = false := by
      rw [flushPending_out_tlm, hout]; rfl
    simpa [cmdTimeout] using hquiet.flushPending.cmdFinalize htlm
  | expire => exact { hquiet with }
  | start => exact hquiet
  | sample =>
    rw [tlmSample_eq]
    exact { hquiet with bit := nofun }
  | finish => simpa [tlmFinish] using hquiet.tlmFinalize (i := s.sidx) (by rw [hout]; rfl)
  | idle | wait | skip => exact hquiet

/-- R240: a step operation with its epilogue and its status drives well-formed records. -/
theorem SelectedEffect.recordsWellFormed_runOperation {s : State} {body : State → State}
    (heffect : SelectedEffect s body) : RecordsWellFormed (runOperation body s).out :=
  (heffect.beginStep.recordsWellFormed rfl).status _ _

/-- R134, R300: a reset drives no record, and no error but ConfigurationError. -/
theorem recordsWellFormed_afterReset (ports : Ports) (inputs : List HostMove) :
    RecordsWellFormed (State.afterReset ports inputs).out := by
  refine (recordsWellFormed_quiet _ _).raise ?_ ?_ <;> split <;> nofun

/-- R44, R240: whenever a move is taken the records are well formed and the status is that of the state after. -/
theorem step_outputs {s t : State} (hin : s.inputs ≠ []) (hstep : step s = .next t) :
    RecordsWellFormed t.out ∧ t.out.stPhase = t.phase ∧ t.out.stHalted = t.halted := by
  obtain ⟨hstop, -⟩ | ⟨cfg, rest, -, rfl⟩ | ⟨din, rest, -, -, rfl⟩ | ⟨din, rest, body, -, -, -, heffect, rfl⟩ :=
    step_next_effect hstep
  · exact absurd hstop hin
  · exact ⟨recordsWellFormed_afterReset _ _, rfl, rfl⟩
  · exact ⟨(recordsWellFormed_quiet _ _).raise nofun nofun, rfl, rfl⟩
  · exact ⟨heffect.recordsWellFormed_runOperation, rfl, rfl⟩

end Sys2Proof.Machine
end

section
/-! The obligations on the state, its invariants and what every step drives. -/

namespace Sys2Proof.Proofs

open Sys2Proof.Machine Sys2Proof.Safety

/-- Settles O47: each selected operation keeps the invariant, and so does every other kind of step. -/
theorem everyStepKeepsTheInvariant : Obligations.EveryStepKeepsTheInvariant := by
  unfold Obligations.EveryStepKeepsTheInvariant
  intro s t hinv hstep
  exact hinv.step hstep

/-- Settles O49: each selected operation keeps the bounds, for which the invariant gives the derived counts and the sampling
grid; the limit leaves room for the largest count. -/
theorem everyStepKeepsIndicesIn64Bits : Obligations.EveryStepKeepsIndicesIn64Bits := by
  unfold Obligations.EveryStepKeepsIndicesIn64Bits
  exact ⟨fun s t hinv hbounds hstep => hbounds.step hinv hstep, fun s hbounds => hbounds.fit⟩

/-- Settles O3: no meaning stops, so a step is refused only before its meaning is asked. -/
theorem stepRefusesExactlyTooLongStreams : Obligations.StepRefusesExactlyTooLongStreams := by
  unfold Obligations.StepRefusesExactlyTooLongStreams
  intro s
  exact ⟨fun f => step_ne_fault s f, fun r => step_refused_iff s r⟩

/-- Settles O35, from the largest rate and the slowest option. -/
theorem timingCountsAreBounded : Obligations.TimingCountsAreBounded := by
  unfold Obligations.TimingCountsAreBounded
  intro rate sel
  have hbp := deriveTiming_bp_le rate sel
  have ht := deriveTiming_t rate sel
  have hh := deriveTiming_h_le rate sel
  exact ⟨hbp, by omega, hh, fun i hi => ⟨by omega, by omega, by omega⟩⟩

/-- Settles O53: each selected operation begins with quiet outputs and leaves well-formed records. -/
theorem outputsAreWellFormed : Obligations.OutputsAreWellFormed := by
  unfold Obligations.OutputsAreWellFormed
  intro s t hin hstep
  obtain ⟨⟨hbit, hcmd, htlm, hone, hbitTiming, hincomplete⟩, hphase, hhalted⟩ := step_outputs hin hstep
  exact ⟨hbit, hcmd, htlm, hone, hphase, hhalted, hbitTiming, hincomplete⟩

/-- Settles O54: no selected operation touches the configuration, and HALT touches the outputs alone. -/
theorem onlyResetChangesTheConfiguration : Obligations.OnlyResetChangesTheConfiguration := by
  unfold Obligations.OnlyResetChangesTheConfiguration
  intro s t din rest hin hstep
  obtain ⟨⟨hinputs, hports, hcfg, htim, hhalted⟩, hhalt⟩ := step_sample_configuration hin hstep
  refine ⟨hinputs, hcfg, htim, hhalted, fun hh => ?_⟩
  rw [hinputs, hports]
  exact hhalt hh

/-- Settles O23: the baud option's row is the reset, whose status is written there. -/
theorem resetDrivesTheStatus : Obligations.ResetDrivesTheStatus := by
  unfold Obligations.ResetDrivesTheStatus
  intro sel s
  exact ⟨takeReset sel s, exec_decodeBaud sel s, rfl, rfl, rfl⟩

/-- Settles O46: the reset state of State.reset is one of the resets. -/
theorem invariantHoldsAfterReset : Obligations.InvariantHoldsAfterReset := by
  unfold Obligations.InvariantHoldsAfterReset
  exact ⟨inv_afterReset .atReset [], inv_afterReset⟩

/-- Settles O48: the reset state of State.reset is one of the resets. -/
theorem indexBoundsHoldAfterReset : Obligations.IndexBoundsHoldAfterReset := by
  unfold Obligations.IndexBoundsHoldAfterReset
  exact ⟨indexBounds_afterReset .atReset [], indexBounds_afterReset⟩

end Sys2Proof.Proofs
end

section
/-! SUPPORT. The order of bits and moves (R72, R73, R82): what the two accumulators hold after a run of appended bits, and the
step of a host that has stopped. -/

namespace Sys2Proof.Machine

/-! ### The shift register -/

/-- R72, R73: the bit shifted in stands lowest, and every other bit moves up by one. -/
theorem getLsbD_shiftIn {n : Nat} (r : BitVec n) (b : Bool) (j : Nat) :
    (shiftIn r b).getLsbD j = (decide (j < n) && if j = 0 then b else r.getLsbD (j - 1)) := by
  cases j with
  | zero => simp [shiftIn]
  | succ i => simp [shiftIn]

/-- R72, R73: bits shifted into an empty register stand in it with the latest lowest, up to its width. -/
theorem getLsbD_foldl_shiftIn {n : Nat} (bits : List Bool) {j : Nat} (hj : j < n) :
    (bits.foldl shiftIn (0 : BitVec n)).getLsbD j = bits.reverse.getD j false := by
  induction bits using List.reverseRecOn generalizing j with
  | nil => simp
  | append_singleton bits b ih =>
    rw [List.foldl_concat, getLsbD_shiftIn, List.reverse_concat, decide_eq_true hj, Bool.true_and]
    cases j with
    | zero => rfl
    | succ i => exact ih (Nat.lt_of_succ_lt hj)

/-- R72, R73: MSB first: as long as the bits fit, the `k`-th in arrival order has as many bits below it as came after it. -/
theorem getLsbD_foldl_shiftIn_msbFirst {n : Nat} {bits : List Bool} (hfit : bits.length ≤ n) {k : Nat}
    (hk : k < bits.length) :
    (bits.foldl shiftIn (0 : BitVec n)).getLsbD (bits.length - 1 - k) = bits.getD k false := by
  have hpos : bits.length - 1 - k < bits.length := by omega
  have hback : bits.length - 1 - (bits.length - 1 - k) = k := by omega
  rw [getLsbD_foldl_shiftIn bits (hpos.trans_le hfit), List.getD_reverse _ hpos, hback]

/-! ### Runs of appended bits -/

/-- R170: the command shift register takes the values of the bits, whatever their end boundaries. -/
theorem foldl_cmdAppend_sr (bits : List (Bool × Nat)) (s : State) :
    (bits.foldl (fun u b => cmdAppend b.1 b.2 u) s).cmd.sr = (bits.map Prod.fst).foldl shiftIn s.cmd.sr := by
  rw [List.foldl_map]
  exact (List.foldl_hom (fun u : State => u.cmd.sr) fun _ _ => rfl).symm

/-- R32, R170: the command bit count counts the bits and saturates. -/
theorem foldl_cmdAppend_cnt (bits : List (Bool × Nat)) (s : State) (hs : s.cmd.cnt ≤ Config.cmdCntMax) :
    (bits.foldl (fun u b => cmdAppend b.1 b.2 u) s).cmd.cnt = min (s.cmd.cnt + bits.length) Config.cmdCntMax := by
  induction bits generalizing s with
  | nil => simpa using hs
  | cons b bits ih =>
    rw [List.foldl_cons, ih _ (by simp), cmdAppend_cmd, List.length_cons]
    dsimp only
    omega

/-- R181: the telemetry shift register takes the bits. -/
theorem foldl_tlmAppend_sr (bits : List Bool) (s : State) :
    (bits.foldl (fun u b => tlmAppend b u) s).tlm.sr = bits.foldl shiftIn s.tlm.sr :=
  (List.foldl_hom (fun u : State => u.tlm.sr) fun _ _ => rfl).symm

/-- R181: the telemetry bit count counts the bits. -/
theorem foldl_tlmAppend_cnt (bits : List Bool) (s : State) :
    (bits.foldl (fun u b => tlmAppend b u) s).tlm.cnt = s.tlm.cnt + bits.length := by
  induction bits generalizing s with
  | nil => rfl
  | cons b bits ih =>
    rw [List.foldl_cons, ih, tlmAppend_tlm, List.length_cons]
    dsimp only
    omega

/-! ### The stopped host -/

/-- R82: no move is presented exactly when none is left. -/
theorem takeMove_eq_none_iff (s : State) : takeMove s = none ↔ s.inputs = [] := by
  rcases hin : s.inputs with _ | ⟨_ | _, _⟩ <;> simp [takeMove, hin]

end Sys2Proof.Machine
end

section
/-! The obligations on the order of bits and on the stopped host. -/

namespace Sys2Proof.Proofs

open Sys2Proof.Machine

/-- Settles O40: the append is a shift, and sixteen bits just fill the register. -/
theorem commandBitsArriveMsbFirst : Obligations.CommandBitsArriveMsbFirst := by
  unfold Obligations.CommandBitsArriveMsbFirst
  intro s bits hsr hcnt hlen
  have hvalues : (bits.map Prod.fst).length = 16 := by rw [List.length_map, hlen]
  refine ⟨?_, fun k hk => ?_⟩
  · rw [foldl_cmdAppend_cnt bits s (by simp [hcnt]), hcnt, hlen]
    rfl
  · have hbit := getLsbD_foldl_shiftIn_msbFirst (n := 16) hvalues.le (hvalues.symm ▸ hk)
    rw [hvalues] at hbit
    rw [foldl_cmdAppend_sr, hsr]
    exact hbit

/-- Settles O41: the append is a shift, and twenty-one bits just fill the register. -/
theorem telemetryBitsArriveMsbFirst : Obligations.TelemetryBitsArriveMsbFirst := by
  unfold Obligations.TelemetryBitsArriveMsbFirst
  intro s bits hsr hcnt hlen
  refine ⟨?_, fun k hk => ?_⟩
  · rw [foldl_tlmAppend_cnt, hcnt, hlen]
  · have hbit := getLsbD_foldl_shiftIn_msbFirst (n := 21) hlen.le (hlen.symm ▸ hk)
    rw [hlen] at hbit
    rw [foldl_tlmAppend_sr, hsr]
    exact hbit

/-- Settles O2: with no move to take, the step answers the state it was given. -/
theorem stoppedHostFreezesTheState : Obligations.StoppedHostFreezesTheState := by
  unfold Obligations.StoppedHostFreezesTheState
  intro s hin
  have hnone : takeMove s = none := (takeMove_eq_none_iff s).mpr hin
  rw [step, hnone]

end Sys2Proof.Proofs
end

section
/-! SUPPORT. The encodings of 30_encoding.md: each format's fields are read back from the word they form and form the word they
are read from; and what the decoder and the encoder do, code space by code space (R90 to R111). -/

namespace Sys2Proof.Machine

/-! ### The command frame (R100) -/

@[simp] theorem cmdValue_cmdWordOf (value : BitVec 11) (treq : BitVec 1) (crc : Nibble) :
    cmdValue (cmdWordOf value treq crc) = value :=
  (BitVec.extractLsb'_append_eq_of_le (xhi := value ++ treq) (by decide)).trans BitVec.extractLsb'_append_eq_left

@[simp] theorem cmdTreq_cmdWordOf (value : BitVec 11) (treq : BitVec 1) (crc : Nibble) :
    cmdTreq (cmdWordOf value treq crc) = treq :=
  (BitVec.extractLsb'_append_eq_of_le (xhi := value ++ treq) (by decide)).trans BitVec.extractLsb'_append_eq_right

@[simp] theorem cmdCrc_cmdWordOf (value : BitVec 11) (treq : BitVec 1) (crc : Nibble) :
    cmdCrc (cmdWordOf value treq crc) = crc := BitVec.extractLsb'_append_eq_right

@[simp] theorem cmdData12_cmdWordOf (value : BitVec 11) (treq : BitVec 1) (crc : Nibble) :
    cmdData12 (cmdWordOf value treq crc) = data12Of value treq := BitVec.extractLsb'_append_eq_left

/-- R100: `data12` is the value and the telemetry request of the same word. -/
theorem data12Of_fields (w : Word16) : data12Of (cmdValue w) (cmdTreq w) = cmdData12 w :=
  BitVec.extractLsb'_append_extractLsb'_eq_extractLsb' (by decide)

@[simp] theorem cmdWordOf_fields (w : Word16) : cmdWordOf (cmdValue w) (cmdTreq w) (cmdCrc w) = w := by
  have hdata : cmdValue w ++ cmdTreq w = cmdData12 w := data12Of_fields w
  rw [cmdWordOf, hdata]
  exact (BitVec.extractLsb'_append_extractLsb'_eq_extractLsb' (by decide)).trans BitVec.extractLsb'_eq_self

/-! ### The raw telemetry frame (R103) -/

@[simp] theorem rawStart_rawOf (start : BitVec 1) (x : Data20) : rawStart (rawOf start x) = start :=
  BitVec.extractLsb'_append_eq_left

@[simp] theorem rawData_rawOf (start : BitVec 1) (x : Data20) : rawData (rawOf start x) = x :=
  BitVec.extractLsb'_append_eq_right

@[simp] theorem rawOf_fields (raw : Raw21) : rawOf (rawStart raw) (rawData raw) = raw :=
  (BitVec.extractLsb'_append_extractLsb'_eq_extractLsb' (by decide)).trans BitVec.extractLsb'_eq_self

/-! ### The four groups (R104) -/

@[simp] theorem group0_groupsOf (g0 g1 g2 g3 : GcrCode) : group0 (groupsOf g0 g1 g2 g3) = g0 :=
  (BitVec.extractLsb'_append_eq_of_le (xhi := g0 ++ g1 ++ g2) (by decide)).trans
    ((BitVec.extractLsb'_append_eq_of_le (xhi := g0 ++ g1) (by decide)).trans BitVec.extractLsb'_append_eq_left)

@[simp] theorem group1_groupsOf (g0 g1 g2 g3 : GcrCode) : group1 (groupsOf g0 g1 g2 g3) = g1 :=
  (BitVec.extractLsb'_append_eq_of_le (xhi := g0 ++ g1 ++ g2) (by decide)).trans
    ((BitVec.extractLsb'_append_eq_of_le (xhi := g0 ++ g1) (by decide)).trans BitVec.extractLsb'_append_eq_right)

@[simp] theorem group2_groupsOf (g0 g1 g2 g3 : GcrCode) : group2 (groupsOf g0 g1 g2 g3) = g2 :=
  (BitVec.extractLsb'_append_eq_of_le (xhi := g0 ++ g1 ++ g2) (by decide)).trans BitVec.extractLsb'_append_eq_right

@[simp] theorem group3_groupsOf (g0 g1 g2 g3 : GcrCode) : group3 (groupsOf g0 g1 g2 g3) = g3 :=
  BitVec.extractLsb'_append_eq_right

@[simp] theorem groupsOf_fields (d : Data20) : groupsOf (group0 d) (group1 d) (group2 d) (group3 d) = d := by
  have htwo : group0 d ++ group1 d = d.extractLsb' 10 10 :=
    BitVec.extractLsb'_append_extractLsb'_eq_extractLsb' (by decide)
  have hthree : d.extractLsb' 10 10 ++ group2 d = d.extractLsb' 5 15 :=
    BitVec.extractLsb'_append_extractLsb'_eq_extractLsb' (by decide)
  rw [groupsOf, htwo, hthree]
  exact (BitVec.extractLsb'_append_extractLsb'_eq_extractLsb' (by decide)).trans BitVec.extractLsb'_eq_self

/-! ### The decoded telemetry word (R105) -/

@[simp] theorem decodedPayload_decodedOf (payload : Data12) (crc : Nibble) :
    decodedPayload (decodedOf payload crc) = payload := BitVec.extractLsb'_append_eq_left

@[simp] theorem decodedCrc_decodedOf (payload : Data12) (crc : Nibble) : decodedCrc (decodedOf payload crc) = crc :=
  BitVec.extractLsb'_append_eq_right

@[simp] theorem decodedOf_fields (w : Word16) : decodedOf (decodedPayload w) (decodedCrc w) = w :=
  (BitVec.extractLsb'_append_extractLsb'_eq_extractLsb' (by decide)).trans BitVec.extractLsb'_eq_self

/-! ### The ERPM payload (R106) -/

@[simp] theorem erpmExp_erpmOf (e : BitVec 3) (m : BitVec 9) : erpmExp (erpmOf e m) = e :=
  BitVec.extractLsb'_append_eq_left

@[simp] theorem erpmMant_erpmOf (e : BitVec 3) (m : BitVec 9) : erpmMant (erpmOf e m) = m :=
  BitVec.extractLsb'_append_eq_right

@[simp] theorem erpmOf_fields (p : Data12) : erpmOf (erpmExp p) (erpmMant p) = p :=
  (BitVec.extractLsb'_append_extractLsb'_eq_extractLsb' (by decide)).trans BitVec.extractLsb'_eq_self

/-! ### The step-select word (R90) -/

/-- R90: each field stands at its place in the packed word. -/
theorem packSelect_fields (h : Bool) (ph : BitVec 2) (se ee f t full : Bool) :
    (packSelect h ph se ee f t full).getLsbD 7 = h ∧ (packSelect h ph se ee f t full).extractLsb' 5 2 = ph ∧
    (packSelect h ph se ee f t full).getLsbD 4 = se ∧ (packSelect h ph se ee f t full).getLsbD 3 = ee ∧
    (packSelect h ph se ee f t full).getLsbD 2 = f ∧ (packSelect h ph se ee f t full).getLsbD 1 = t ∧
    (packSelect h ph se ee f t full).getLsbD 0 = full := by
  revert h ph se ee f t full; decide

end Sys2Proof.Machine

namespace Sys2Proof

/-! ### The code spaces -/

/-- R91: each row of the step-select table is a step operation, without operands. -/
theorem decodeStep_row (w : SelectWord) : (decodeStep w).format = .step8 ∧ (decodeStep w).wellFormed = true := by
  unfold decodeStep
  split_ifs <;> exact ⟨rfl, rfl⟩

/-- R108: each GCR code is a row of its own, whose word is the code. -/
theorem decodeGcr_row (p : GcrCode) :
    (decodeGcr p).format = .gcr5 ∧ (decodeGcr p).wellFormed = true ∧ (decodeGcr p).word = p.toNat := by
  revert p; decide

/-- R110: each configuration code is a row of its own, whose word is the code. -/
theorem decodeBaud_row (sel : BitVec 2) :
    (decodeBaud sel).format = .baudSel2 ∧ (decodeBaud sel).wellFormed = true ∧ (decodeBaud sel).word = sel.toNat := by
  revert sel; decide

/-! ### The decoder on words that fit -/

/-- What `decodeFit` reads is a row of the format asked for. -/
theorem decodeFit_format (f : Format) (w : Nat) : (decodeFit f w).format = f := by
  cases f with
  | step8 => exact (decodeStep_row _).1
  | gcr5 => exact (decodeGcr_row _).1
  | baudSel2 => exact (decodeBaud_row _).1
  | _ => rfl

/-- R100: the one overlapping field, CMD_FRAME's `data12`, is read from the same bits as the fields it repeats. -/
theorem decodeFit_wellFormed (f : Format) (w : Nat) : (decodeFit f w).wellFormed = true := by
  cases f with
  | step8 => exact (decodeStep_row _).2
  | gcr5 => exact (decodeGcr_row _).2.1
  | baudSel2 => exact (decodeBaud_row _).2.1
  | cmd16 => exact decide_eq_true (Machine.data12Of_fields _).symm
  | _ => rfl

/-- Outside the step-select words, the encoder gives back the word that was read. -/
theorem word_decodeFit {f : Format} (hf : f ≠ .step8) {w : Nat} (hw : w < 2 ^ f.width) : (decodeFit f w).word = w := by
  have hback : (BitVec.ofNat f.width w).toNat = w := by rw [BitVec.toNat_ofNat, Nat.mod_eq_of_lt hw]
  cases f with
  | step8 => exact absurd rfl hf
  | gcr5 => exact (decodeGcr_row _).2.2.trans hback
  | baudSel2 => exact (decodeBaud_row _).2.2.trans hback
  | cmd16 => exact (congrArg BitVec.toNat (Machine.cmdWordOf_fields _)).trans hback
  | tlm21 => exact (congrArg BitVec.toNat (Machine.rawOf_fields _)).trans hback
  | tlm20d => exact (congrArg BitVec.toNat (Machine.groupsOf_fields _)).trans hback
  | tlm16 => exact (congrArg BitVec.toNat (Machine.decodedOf_fields _)).trans hback
  | erpm12 => exact (congrArg BitVec.toNat (Machine.erpmOf_fields _)).trans hback
  | edt12 => exact hback

/-- A well-formed instruction is what `decodeFit` reads from its own word: a row without operands because its match value is
one of its words, a data format because its fields are read back. -/
theorem decodeFit_word {i : Instr} (h : i.wellFormed = true) : decodeFit i.format i.word = i := by
  cases i with
  | cmdFrame value treq crc data12 =>
    have hdata : data12 = Machine.data12Of value treq := of_decide_eq_true h
    simp [decodeFit, Instr.format, Instr.word, decodeCmdWord, hdata]
  | tlmRaw start x => simp [decodeFit, Instr.format, Instr.word, decodeRaw]
  | tlmGcrGroups g0 g1 g2 g3 => simp [decodeFit, Instr.format, Instr.word, decodeGroups]
  | tlmDecoded payload crc => simp [decodeFit, Instr.format, Instr.word, decodeTlmWord]
  | tlmErpm e m => simp [decodeFit, Instr.format, Instr.word, decodeErpm]
  | tlmEdt payload => simp [decodeFit, Instr.format, Instr.word]
  | _ => rfl

/-- The encoding of an instruction fits its format. -/
theorem wordFits_word (i : Instr) : wordFits i.format i.word = true := by
  cases i with
  | cmdFrame value treq crc data12 => exact Laws.EncodingFits.cmdFrame value treq crc data12
  | tlmRaw start x => exact Laws.EncodingFits.tlmRaw start x
  | tlmGcrGroups g0 g1 g2 g3 => exact Laws.EncodingFits.tlmGcrGroups g0 g1 g2 g3
  | tlmDecoded payload crc => exact Laws.EncodingFits.tlmDecoded payload crc
  | tlmErpm e m => exact Laws.EncodingFits.tlmErpm e m
  | tlmEdt payload => exact Laws.EncodingFits.tlmEdt payload
  | _ => rfl

/-! ### The decoder on every word -/

@[simp] theorem wordFits_iff (f : Format) (w : Nat) : wordFits f w = true ↔ w < 2 ^ f.width := decide_eq_true_iff

theorem decode_eq_instr_iff (f : Format) (w : Nat) (i : Instr) :
    decode f w = .instr i ↔ w < 2 ^ f.width ∧ decodeFit f w = i := by
  by_cases hw : w < 2 ^ f.width <;> simp [decode, hw]

theorem decode_eq_refused_iff (f : Format) (w : Nat) (r : DecodeRefusal) :
    decode f w = .refused r ↔ 2 ^ f.width ≤ w ∧ r = .wordTooWide f := by
  by_cases hw : w < 2 ^ f.width
  · simp [decode, hw, Nat.not_le.mpr hw]
  · simp [decode, hw, Nat.le_of_not_lt hw, eq_comm (a := r)]

/-- R91 to R110: decode of encode is the instruction. -/
theorem decode_encode {i : Instr} (h : i.wellFormed = true) : decode i.format i.word = .instr i :=
  (decode_eq_instr_iff _ _ _).mpr ⟨(wordFits_iff _ _).mp (wordFits_word i), decodeFit_word h⟩

end Sys2Proof
end

section
/-! SUPPORT. What the rows outside the step operations do to the whole state: a reset's latched configuration (R110, R340), and the
data formats, each a change of the outputs alone (R100 to R107, R216). -/

namespace Sys2Proof.Machine

/-! ### The baud options -/

/-- R27, R130 to R134: the registers that the reset of a code derives, as arithmetic on the rate and the option's baud rate. -/
theorem deriveTiming_eq (rate : BitVec 32) (sel : BitVec 2) :
    deriveTiming rate sel =
      { baud := baudOf sel, bp := rate.toNat / baudOf sel, t := 3 * (rate.toNat / baudOf sel),
        h := 4 * rate.toNat / (10 * baudOf sel) } := by
  have hnum : rate.toNat * 4 = 4 * rate.toNat := Nat.mul_comm _ _
  have hden : 2 * baudOf sel * 5 = 10 * baudOf sel := by omega
  simp [deriveTiming, bitPeriod, timeoutSamples, halfBit, Config.timeoutMult, Config.tlmRateNum, Config.tlmRateDen,
    hnum, hden]

/-- R134: the check reads the rate as a number. -/
theorem cfgError_eq (rate : BitVec 32) (bidir : Bool) (tim : Timing) :
    cfgError rate bidir tim = (decide (rate.toNat = 0) || decide (tim.bp = 0) || (bidir && decide (tim.h = 0))) := by
  have hzero : rate = 0#32 ↔ rate.toNat = 0 := BitVec.toNat_eq
  simp only [cfgError, hzero]

/-! ### Changes of the outputs alone -/

/-- Two states that agree on the moves, the ports and every register differ in their outputs alone. -/
theorem eq_with_out {s t : State} (inputs : t.inputs = s.inputs) (ports : t.ports = s.ports) (cfg : t.cfg = s.cfg)
    (tim : t.tim = s.tim) (halted : t.halted = s.halted) (sidx : t.sidx = s.sidx) (phase : t.phase = s.phase)
    (line : t.line = s.line) (pend : t.pend = s.pend) (lastEvt : t.lastEvt = s.lastEvt) (cmd : t.cmd = s.cmd)
    (lc : t.lc = s.lc) (tlm : t.tlm = s.tlm) : t = { s with out := t.out } := by
  cases s; cases t; simp_all

/-- R216: the groups change the outputs alone. -/
theorem driveGroups_eq (g0 g1 g2 g3 : GcrCode) (s : State) :
    driveGroups g0 g1 g2 g3 s = { s with out := (driveGroups g0 g1 g2 g3 s).out } := by
  apply eq_with_out <;> simp

/-- R217: the checksum stage changes the outputs alone. -/
theorem driveDecoded_eq (p : Data12) (c : Nibble) (s : State) :
    driveDecoded p c s = { s with out := (driveDecoded p c s).out } := by
  apply eq_with_out <;> simp

/-- R202: a choice by the validation is a choice by the equality of the two checksums. -/
theorem ite_validateChecksum {α : Type} (d : Data12) (c : Nibble) (bidir : Bool) (x y : α) :
    (if validateChecksum d c bidir then x else y) = if c = computeChecksum d bidir then x else y := by
  simp only [validateChecksum, decide_eq_true_eq]

/-! ### The groups, lane by lane -/

/-- R212, R213: valid or not, a lookup is the next lane. -/
theorem lookupLane_wires (p : GcrCode) (s : State) :
    (lookupLane p s).out.wires = { s.out.wires with lanes := s.out.wires.lanes ++ [gcrLookup p] } := by
  unfold lookupLane; dsimp only; split <;> rfl

/-- R214, R216: the groups' lanes are their lookups, first group first. -/
theorem driveGroups_wires (g0 g1 g2 g3 : GcrCode) (s : State) :
    (driveGroups g0 g1 g2 g3 s).out.wires =
      { s.out.wires with lanes := [gcrLookup g0, gcrLookup g1, gcrLookup g2, gcrLookup g3] } := by
  obtain ⟨n0, n1, n2, n3, h0, h1, h2, h3⟩ | ⟨j, p, -, hfirst⟩ := groups_cases g0 g1 g2 g3
  · rw [driveGroups_valid h0 h1 h2 h3, h0, h1, h2, h3]
  · rw [driveGroups_invalid hfirst]

/-- R216: of the outputs, the groups change the telemetry record, the error and the decoder's signals. -/
theorem driveGroups_frame (g0 g1 g2 g3 : GcrCode) (s : State) :
    driveGroups g0 g1 g2 g3 s =
      { s with out := { s.out with
          tlm := (driveGroups g0 g1 g2 g3 s).out.tlm
          errCode := (driveGroups g0 g1 g2 g3 s).out.errCode
          wires := (driveGroups g0 g1 g2 g3 s).out.wires } } := by
  rw [driveGroups_eq]
  obtain ⟨n0, n1, n2, n3, h0, h1, h2, h3⟩ | ⟨j, p, -, hfirst⟩ := groups_cases g0 g1 g2 g3
  · rw [driveGroups_valid h0 h1 h2 h3]
  · rw [driveGroups_invalid hfirst]

/-- R213, R218: with an invalid group there is no decoded word, and GcrDecodeError is raised. -/
theorem driveGroups_of_invalid {g0 g1 g2 g3 : GcrCode}
    (h : gcrLookup g0 = none ∨ gcrLookup g1 = none ∨ gcrLookup g2 = none ∨ gcrLookup g3 = none) (s : State) :
    (driveGroups g0 g1 g2 g3 s).out.tlm.gcrOk = false ∧ (driveGroups g0 g1 g2 g3 s).out.tlm.decoded = 0 ∧
    (driveGroups g0 g1 g2 g3 s).out.errCode = .gcrDecodeError := by
  obtain ⟨n0, n1, n2, n3, h0, h1, h2, h3⟩ | ⟨j, p, -, hfirst⟩ := groups_cases g0 g1 g2 g3
  · simp [h0, h1, h2, h3] at h
  · rw [driveGroups_invalid hfirst]
    exact ⟨rfl, rfl, rfl⟩

/-- R108, R212: the row of a GCR code is the lookup of that code. -/
theorem exec_decodeGcr (p : GcrCode) (s : State) : exec (decodeGcr p) s = .next (lookupLane p s) := by
  obtain ⟨⟨n, hn⟩⟩ := p
  interval_cases n <;> rfl

/-! ### The ERPM period -/

/-- R220: a 9-bit mantissa shifted by at most 7 stays within 16 bits. -/
theorem erpmPeriod_toNat (e : BitVec 3) (m : BitVec 9) :
    (erpmPeriod e m).toNat = m.toNat * 2 ^ e.toNat ∧ m.toNat * 2 ^ e.toNat ≤ 65408 := by
  have hm : m.toNat ≤ 511 := Nat.le_of_lt_succ m.isLt
  have he : 2 ^ e.toNat ≤ 2 ^ 7 := Nat.pow_le_pow_right (by decide) (Nat.le_of_lt_succ e.isLt)
  have hbound : m.toNat * 2 ^ e.toNat ≤ 511 * 2 ^ 7 := Nat.mul_le_mul hm he
  have hzext : (m.setWidth 16).toNat = m.toNat := by rw [BitVec.toNat_setWidth, Nat.mod_eq_of_lt (by omega)]
  refine ⟨?_, hbound⟩
  rw [erpmPeriod, BitVec.toNat_shiftLeft, hzext, Nat.shiftLeft_eq, Nat.mod_eq_of_lt (by omega)]

end Sys2Proof.Machine
end

section
/-! The obligations on the encodings, the selection, the baud options and the data formats. -/

namespace Sys2Proof.Proofs

open Sys2Proof.Machine Sys2Proof.Safety

/-- Settles O42: an encoding fits its format, and its fields are read back one by one. -/
theorem decodeOfEncode : Obligations.DecodeOfEncode := by
  unfold Obligations.DecodeOfEncode
  intro i h
  exact decode_encode h

/-- Settles O7: a sample's selection, phase by phase. -/
theorem simultaneousConditionsHaveOnePriority : Obligations.SimultaneousConditionsHaveOnePriority := by
  unfold Obligations.SimultaneousConditionsHaveOnePriority
  intro s
  refine ⟨decodeStep_stepSelect_halted, fun hrun hphase => ?_, decodeStep_stepSelect_awaitTlm, decodeStep_stepSelect_recvTlm⟩
  have hcommand : commandPhase s.phase = true := by obtain hp | hp := hphase <;> rw [hp] <;> rfl
  exact decodeStep_stepSelect_command hrun hcommand

/-- Settles O30: either every group decodes or one is the first that does not; the codes' own rows are the same lookups. -/
theorem groupsDecodeLaneByLane : Obligations.GroupsDecodeLaneByLane := by
  unfold Obligations.GroupsDecodeLaneByLane
  intro s g0 g1 g2 g3
  refine ⟨driveGroups g0 g1 g2 g3 s, rfl, driveGroups_frame g0 g1 g2 g3 s, driveGroups_wires g0 g1 g2 g3 s, ?_,
    fun h => driveGroups_of_invalid h s, ?_⟩
  · intro n0 n1 n2 n3 h0 h1 h2 h3
    rw [driveGroups_valid h0 h1 h2 h3]
    exact ⟨rfl, rfl⟩
  · simp only [Spec.execAll, exec_decodeGcr]
    exact ⟨_, rfl, by simp [lookupLane_wires, driveGroups_wires]⟩

/-- Settles O32, from the bounds of the two fields. -/
theorem erpmPeriodIsExact : Obligations.ErpmPeriodIsExact := by
  unfold Obligations.ErpmPeriodIsExact
  intro s e m
  obtain ⟨hexact, hbound⟩ := erpmPeriod_toNat e m
  exact ⟨driveErpm e m s, rfl, rfl, hexact, hexact.trans_le hbound⟩

/-- Settles O43: only a word that fits decodes, and its fields form it again. -/
theorem encodeOfDecode : Obligations.EncodeOfDecode := by
  unfold Obligations.EncodeOfDecode
  intro f w i h
  obtain ⟨hw, rfl⟩ := (decode_eq_instr_iff f w i).mp h
  exact ⟨decodeFit_wellFormed f w, decodeFit_format f w,
    fun hf => Prod.ext (decodeFit_format f w) (word_decodeFit hf hw)⟩

/-- Settles O4: the word is packed from its fields, and the phase and timer fields are a case of the phase each. -/
theorem selectWordFields : Obligations.SelectWordFields := by
  unfold Obligations.SelectWordFields
  intro s
  obtain ⟨hhalted, hphase, hstart, hend, hfall, htimer, hfull⟩ := packSelect_fields s.halted (phaseBits s.phase)
    (startEdgeNow s) (endEdgeNow s) (fallNow s) (timerHit s) (tlmFull s)
  refine ⟨hhalted, hphase.trans ?_, hstart, hend, hfall, htimer.trans rfl, hfull⟩
  cases s.phase <;> rfl

/-- Settles O5, word by word. -/
theorem selectTablePartitionsTheWords : Obligations.SelectTablePartitionsTheWords := by
  unfold Obligations.SelectTablePartitionsTheWords
  decide

/-- Settles O22: the decoded baud option is the reset that latches its code, and the derived registers are arithmetic on the
option's baud rate. -/
theorem resetLatchesTheConfiguration : Obligations.ResetLatchesTheConfiguration := by
  unfold Obligations.ResetLatchesTheConfiguration
  intro row hrow s
  have hoption : decodeBaud row.2.1 = row.1 ∧ baudOf row.2.1 = row.2.2 := by revert row; decide
  obtain ⟨hdecode, hbaud⟩ := hoption
  have htim := deriveTiming_eq s.ports.cfg.sampleRate row.2.1
  rw [hbaud] at htim
  have hbad := cfgError_eq s.ports.cfg.sampleRate s.ports.cfg.bidir (deriveTiming s.ports.cfg.sampleRate row.2.1)
  rw [htim] at hbad
  refine ⟨hdecode, takeReset row.2.1 s, hdecode ▸ exec_decodeBaud row.2.1 s, rfl, rfl, rfl, htim, ?_, rfl, rfl, rfl, rfl,
    rfl, rfl, rfl, rfl, rfl, rfl, rfl, rfl⟩
  rw [← hbad, ← htim]
  rfl

/-- Settles O28: a well-formed frame's `data12` is its value and telemetry request. -/
theorem commandFrameDrivesItsRecord : Obligations.CommandFrameDrivesItsRecord := by
  unfold Obligations.CommandFrameDrivesItsRecord
  intro s value treq crc data12 hwf
  obtain rfl : data12 = data12Of value treq := of_decide_eq_true hwf
  have hexec : exec (.cmdFrame value treq crc (data12Of value treq)) s =
      .next (emitCmdFrame value treq crc (data12Of value treq) s) := rfl
  rw [hexec, emitCmdFrame_eq, emitCmdFrame_out, ite_validateChecksum]
  rfl

/-- Settles O29: the data bits of the frame formed are the data bits given. -/
theorem rawFrameIsDifferentiallyDecoded : Obligations.RawFrameIsDifferentiallyDecoded := by
  unfold Obligations.RawFrameIsDifferentiallyDecoded
  intro s start x
  have hexec : exec (.tlmRaw start x) s = .next (driveRaw (rawOf start x) s) := rfl
  rw [hexec, driveRaw, rawData_rawOf]
  rfl

/-- Settles O31: the stage changes the outputs alone, and its error is the checksum's. -/
theorem decodedWordIsChecked : Obligations.DecodedWordIsChecked := by
  unfold Obligations.DecodedWordIsChecked
  intro s payload crc
  have hexec : exec (.tlmDecoded payload crc) s = .next (driveDecoded payload crc s) := rfl
  rw [hexec, driveDecoded_eq, driveDecoded_out, ite_validateChecksum]
  rfl

/-- Settles O33: the row drives the three fields of the outcome and the payload. -/
theorem edtIsNotImplemented : Obligations.EdtIsNotImplemented := by
  unfold Obligations.EdtIsNotImplemented
  intro s payload
  rfl

/-- Settles O44: the width is all that the decoder asks of a word. -/
theorem wideWordsAreRefused : Obligations.WideWordsAreRefused := by
  unfold Obligations.WideWordsAreRefused
  intro f w
  exact ⟨by simp [decode_eq_refused_iff], by simp [decode_eq_instr_iff]⟩

/-- Settles O45: each word is evaluated by the decoder. -/
theorem writtenWordsDecode : Obligations.WrittenWordsDecode := by
  unfold Obligations.WrittenWordsDecode
  decide

end Sys2Proof.Proofs
end

section
/-! SUPPORT. The two readings of the half telemetry bit (R133): both are the one division of the register `h`. -/

namespace Sys2Proof.Machine

/-- R110, R130: the vector of the baud rates, read as a list by its codes. -/
theorem baudOf_eq_getD (sel : BitVec 2) : baudOf sel = [150000, 300000, 600000, 1200000].getD sel.toNat 0 := by
  revert sel; decide

/-- R133: the exact ratio in lowest terms, truncated once. -/
theorem deriveTiming_h_reduced (rate : BitVec 32) (sel : BitVec 2) :
    (deriveTiming rate sel).h = 2 * rate.toNat / (5 * baudOf sel) := by
  rw [deriveTiming_eq]
  calc 4 * rate.toNat / (10 * baudOf sel) = 2 * (2 * rate.toNat) / (2 * (5 * baudOf sel)) := by
        congr 1 <;> omega
    _ = 2 * rate.toNat / (5 * baudOf sel) := Nat.mul_div_mul_left _ _ (by decide)

/-- R133: the telemetry bit period is truncated first and halved then; two floor divisions are one by the product. -/
theorem deriveTiming_h_halved (rate : BitVec 32) (sel : BitVec 2) :
    (deriveTiming rate sel).h = 4 * rate.toNat / (5 * baudOf sel) / 2 := by
  have hden : 10 * baudOf sel = 5 * baudOf sel * 2 := by omega
  rw [deriveTiming_eq, Nat.div_div_eq_div_mul, hden]

end Sys2Proof.Machine
end

section
/-! The obligation on the derived counts. -/

namespace Sys2Proof.Proofs

open Sys2Proof.Machine

/-- Settles O34: the table, the two floor divisions and the product are read off the derived registers; the half bit by its
two readings. -/
theorem derivedTiming : Obligations.DerivedTiming := by
  unfold Obligations.DerivedTiming
  intro rate sel
  exact ⟨baudOf_eq_getD sel, rfl, deriveTiming_t rate sel, deriveTiming_h_reduced rate sel, deriveTiming_h_halved rate sel⟩

end Sys2Proof.Proofs
end

section
/-! SUPPORT. The edges of a sample (R150, R152) and the two bit classifiers (R154, R155, R160), each by the condition it decides. -/

namespace Sys2Proof.Machine

/-! ### The edges of a sample -/

/-- R150: an edge is a change from a previous sample that there is. -/
theorem edgeNow_iff (s : State) : edgeNow s = true ↔ s.line.prevValid = true ∧ s.ports.din ≠ s.line.prevDin := by
  rw [edgeNow, Bool.and_eq_true, bne_iff_ne]

/-- R150: sample 0 never has an edge. -/
theorem edgeNow_of_no_previous {s : State} (h : s.line.prevValid = false) : edgeNow s = false := by
  rw [edgeNow, h, Bool.false_and]

/-- R150: a rising edge is an edge to the high level. -/
theorem riseNow_iff (s : State) : riseNow s = true ↔ edgeNow s = true ∧ s.ports.din = true := by
  rw [riseNow, Bool.and_eq_true]

/-- R150: a falling edge is an edge to the low level. -/
theorem fallNow_iff (s : State) : fallNow s = true ↔ edgeNow s = true ∧ s.ports.din = false := by
  rw [fallNow, Bool.and_eq_true, Bool.not_eq_true']

/-- R152: in bidirectional mode a bit rises and then falls. -/
theorem commandEdges_of_bidir {s : State} (h : s.cfg.bidir = true) :
    startEdgeNow s = riseNow s ∧ endEdgeNow s = fallNow s :=
  ⟨if_pos h, if_pos h⟩

/-- R152: in unidirectional mode a bit falls and then rises. -/
theorem commandEdges_of_not_bidir {s : State} (h : s.cfg.bidir = false) :
    startEdgeNow s = fallNow s ∧ endEdgeNow s = riseNow s :=
  ⟨if_neg (by simp [h]), if_neg (by simp [h])⟩

/-- R152: an edge is exactly one of a start edge and an end edge, as its new level is the level of a bit's duty or is not. -/
theorem edgeNow_eq_start_bne_end (s : State) : edgeNow s = (startEdgeNow s != endEdgeNow s) := by
  rw [startEdgeNow_eq, endEdgeNow_eq]
  cases hedge : edgeNow s with
  | false => rfl
  | true => cases hlevel : s.ports.din == s.cfg.bidir <;> simp [bne, hlevel]

/-! ### The command bit (R154) -/

/-- R154: a command bit is 1 when twice its duty exceeds its period. -/
theorem classifyCommandBit_iff (start mid stop : Nat) :
    classifyCommandBit start mid stop = true ↔ stop - start < 2 * (mid - start) :=
  decide_eq_true_iff

/-- R155: the comparison of a duty ratio with one half, multiplied out. -/
theorem half_lt_duty_ratio_iff {duty period : Nat} (h : 0 < period) :
    (1 / 2 : ℚ) < (duty : ℚ) / period ↔ period < 2 * duty := by
  have hperiod : (0 : ℚ) < period := Nat.cast_pos.mpr h
  rw [div_lt_div_iff₀ two_pos hperiod, one_mul, mul_comm]
  exact_mod_cast Iff.rfl

/-! ### The telemetry bit (R160) -/

/-- R160: when both references match or neither does, the bit is malformed; its best-effort value is 0 (log 18). -/
theorem classifyTelemetryBit_malformed (matched : Bool) : classifyTelemetryBit matched matched = (false, true) := by
  cases matched <;> rfl

end Sys2Proof.Machine
end

section
/-! The obligations on the edges and the bit classifiers. -/

namespace Sys2Proof.Proofs

open Sys2Proof.Machine

/-- Settles O36: the subtractions of naturals are exact, and the period is positive. -/
theorem commandBitIsTheExactDutyRatio : Obligations.CommandBitIsTheExactDutyRatio := by
  unfold Obligations.CommandBitIsTheExactDutyRatio
  intro start mid stop hmid hstop
  rw [classifyCommandBit_iff, gt_iff_lt, ← Nat.cast_sub hmid, ← Nat.cast_sub hstop.le]
  exact (half_lt_duty_ratio_iff (Nat.sub_pos_of_lt hstop)).symm

/-- Settles O6, clause by clause. -/
theorem edgesFollowThePolarity : Obligations.EdgesFollowThePolarity := by
  unfold Obligations.EdgesFollowThePolarity
  intro s
  exact ⟨edgeNow_iff s, riseNow_iff s, fallNow_iff s, commandEdges_of_bidir, commandEdges_of_not_bidir,
    edgeNow_eq_start_bne_end s, edgeNow_of_no_previous⟩

/-- Settles O37: one match alone is a level that was sampled, the other two inputs are the malformed ones. -/
theorem telemetryBitClassifier : Obligations.TelemetryBitClassifier := by
  unfold Obligations.TelemetryBitClassifier
  exact ⟨classifyTelemetryBit_level false, classifyTelemetryBit_level true, classifyTelemetryBit_malformed false,
    classifyTelemetryBit_malformed true⟩

end Sys2Proof.Proofs
end

section
/-! SUPPORT. The checksum engine (R200 to R202): both variants on nibbles, and validation as the equality it decides. -/

namespace Sys2Proof.Machine

/-- R200: the mask distributes over the XOR, so the plain checksum is the XOR of the three nibbles. -/
theorem computeChecksum_plain (data : Data12) :
    computeChecksum data false = data.extractLsb' 0 4 ^^^ data.extractLsb' 4 4 ^^^ data.extractLsb' 8 4 := by
  calc computeChecksum data false = (data ^^^ (data >>> 4) ^^^ (data >>> 8)).setWidth 4 := rfl
    _ = data.setWidth 4 ^^^ (data >>> 4).setWidth 4 ^^^ (data >>> 8).setWidth 4 := by
        rw [BitVec.setWidth_xor, BitVec.setWidth_xor]
    _ = data.extractLsb' 0 4 ^^^ data.extractLsb' 4 4 ^^^ data.extractLsb' 8 4 := by
        rw [BitVec.setWidth_eq_extractLsb' (by decide), BitVec.setWidth_ushiftRight_eq_extractLsb,
          BitVec.setWidth_ushiftRight_eq_extractLsb]

/-- R201: the complement commutes with the mask, so the bidirectional checksum complements the four bits of the plain one. -/
theorem computeChecksum_inverted (data : Data12) : computeChecksum data true = computeChecksum data false ^^^ 0xF := by
  calc computeChecksum data true = (~~~(data ^^^ (data >>> 4) ^^^ (data >>> 8))).setWidth 4 := rfl
    _ = ~~~computeChecksum data false := BitVec.setWidth_not (by decide)
    _ = computeChecksum data false ^^^ 0xF := BitVec.xor_allOnes.symm

/-- R202: validation succeeds for the computed checksum and no other. -/
theorem validateChecksum_iff (data : Data12) (received : Nibble) (bidir : Bool) :
    validateChecksum data received bidir = true ↔ received = computeChecksum data bidir :=
  decide_eq_true_iff

end Sys2Proof.Machine
end

section
/-! The obligation on the checksum engine. -/

namespace Sys2Proof.Proofs

open Sys2Proof.Machine

/-- Settles O38: the two variants by their nibbles; the round trip is validation's equality at the computed checksum. -/
theorem checksumVariants : Obligations.ChecksumVariants := by
  unfold Obligations.ChecksumVariants
  intro data
  exact ⟨computeChecksum_plain data, computeChecksum_inverted data,
    fun bidir => (validateChecksum_iff data _ bidir).mpr rfl, validateChecksum_iff data⟩

end Sys2Proof.Proofs
end

section
/-! SUPPORT. The telemetry line code (R210 to R215): the GCR table as a pair of inverse lookups, and the differential code as a
composition of XORs with shifted words. -/

namespace Sys2Proof.Machine

/-! ### The GCR table (R210, R211) -/

/-- R211: the pattern of a nibble is valid and stands for it. -/
@[simp] theorem gcrLookup_gcrPattern (n : Nibble) : gcrLookup (gcrPattern n) = some n := by
  revert n; decide

/-- R211: a valid pattern is the one of its nibble. -/
theorem gcrPattern_of_gcrLookup {p : GcrCode} {n : Nibble} (h : gcrLookup p = some n) : p = gcrPattern n := by
  revert p n; decide

/-- R212, R213: a lookup changes the outputs alone. -/
theorem lookupLane_eq (p : GcrCode) (s : State) : lookupLane p s = { s with out := (lookupLane p s).out } := by
  apply eq_with_out <;> simp

/-! ### The differential code (R215) -/

/-- A word XORed with itself shifted down by `k`: the differential decode is the case `k = 1`, and its inverse the composition of
the cases 1, 2, 4, 8 and 16. -/
def xorShift {n : Nat} (k : Nat) (x : BitVec n) : BitVec n := x ^^^ (x >>> k)

theorem diffDecode_eq_xorShift (x : Data20) : diffDecode x = xorShift 1 x := rfl

theorem diffEncode_eq_xorShift (d : Data20) :
    diffEncode d = xorShift 16 (xorShift 8 (xorShift 4 (xorShift 2 (xorShift 1 d)))) := rfl

theorem getLsbD_xorShift {n : Nat} (k : Nat) (x : BitVec n) (j : Nat) :
    (xorShift k x).getLsbD j = (x.getLsbD j ^^ x.getLsbD (k + j)) := by
  rw [xorShift, BitVec.getLsbD_xor, BitVec.getLsbD_ushiftRight]

/-- The two terms shifted once cancel, so the shift doubles. -/
theorem xorShift_xorShift_self {n : Nat} (k : Nat) (x : BitVec n) : xorShift k (xorShift k x) = xorShift (k + k) x := by
  simp only [xorShift, BitVec.ushiftRight_xor_distrib, BitVec.shiftRight_add]
  rw [BitVec.xor_assoc, ← BitVec.xor_assoc (x >>> k), BitVec.xor_self, BitVec.zero_xor]

theorem xorShift_comm {n : Nat} (j k : Nat) (x : BitVec n) : xorShift j (xorShift k x) = xorShift k (xorShift j x) := by
  apply BitVec.eq_of_getLsbD_eq
  intro i _
  simp only [getLsbD_xorShift, Nat.add_left_comm k j i, Bool.xor_assoc]
  rw [Bool.xor_left_comm (x.getLsbD (k + i))]

theorem xorShift_of_width_le {n k : Nat} (h : n ≤ k) (x : BitVec n) : xorShift k x = x := by
  rw [xorShift, BitVec.ushiftRight_eq_zero h, BitVec.xor_zero]

/-- R215: the inverse undoes the decode: the doublings run past the word's 20 bits. -/
theorem diffEncode_diffDecode (x : Data20) : diffEncode (diffDecode x) = x := by
  simp only [diffDecode_eq_xorShift, diffEncode_eq_xorShift, xorShift_xorShift_self]
  exact xorShift_of_width_le (by decide) x

/-- R215: the decode undoes its inverse, because it passes through the inverse's factors. -/
@[simp] theorem diffDecode_diffEncode (d : Data20) : diffDecode (diffEncode d) = d := by
  have hpass : diffDecode (diffEncode d) = diffEncode (diffDecode d) := by
    simp only [diffDecode_eq_xorShift, diffEncode_eq_xorShift, xorShift_comm 1]
  rw [hpass, diffEncode_diffDecode]

/-! ### The four nibbles of a word (R216) -/

/-- R216: a word is its four nibbles, the first most significant. -/
theorem nibbles_append (w : Word16) :
    w.extractLsb' 12 4 ++ w.extractLsb' 8 4 ++ w.extractLsb' 4 4 ++ w.extractLsb' 0 4 = w := by
  have htwo : w.extractLsb' 12 4 ++ w.extractLsb' 8 4 = w.extractLsb' 8 8 :=
    BitVec.extractLsb'_append_extractLsb'_eq_extractLsb' (by decide)
  have hthree : w.extractLsb' 8 8 ++ w.extractLsb' 4 4 = w.extractLsb' 4 12 :=
    BitVec.extractLsb'_append_extractLsb'_eq_extractLsb' (by decide)
  rw [htwo, hthree]
  exact (BitVec.extractLsb'_append_extractLsb'_eq_extractLsb' (by decide)).trans BitVec.extractLsb'_eq_self

end Sys2Proof.Machine
end

section
/-! SUPPORT. The telemetry decode (R185, R216) in two parts, the groups and the reading of the decoded word; and TLM_FINISH (R267)
as that decode between its header and the registers it writes. -/

namespace Sys2Proof.Machine

/-! ### The two parts of the decode -/

/-- R215, R216: the first part of the decode: the raw frame and the four groups of its differential decode. -/
def frameGroups (raw : Raw21) (s : State) : State :=
  let d := diffDecode (rawData raw)
  driveGroups (group0 d) (group1 d) (group2 d) (group3 d) (driveRaw raw s)

/-- R217, R219: the second part, for a decoded word: its checksum and its interpretation. -/
def readWord (w : Word16) (s : State) : State :=
  interpretPayload (decodedPayload w) (driveDecoded (decodedPayload w) (decodedCrc w) s)

/-- R216: the decode reads the word exactly when every group is valid. -/
theorem decodeFrame_eq (raw : Raw21) (s : State) :
    decodeFrame raw s =
      if (frameGroups raw s).out.tlm.gcrOk then readWord (frameGroups raw s).out.tlm.decoded (frameGroups raw s)
      else frameGroups raw s := rfl

@[simp] theorem frameGroups_cfg (raw : Raw21) (s : State) : (frameGroups raw s).cfg = s.cfg := by simp [frameGroups]

/-- R214, R216: four valid groups give the decoded word, and no error. -/
theorem frameGroups_of_valid {raw : Raw21} {d : Data20} {n0 n1 n2 n3 : Nibble} (hd : diffDecode (rawData raw) = d)
    (h0 : gcrLookup (group0 d) = some n0) (h1 : gcrLookup (group1 d) = some n1) (h2 : gcrLookup (group2 d) = some n2)
    (h3 : gcrLookup (group3 d) = some n3) (s : State) :
    (frameGroups raw s).out.tlm.gcrOk = true ∧ (frameGroups raw s).out.tlm.decoded = n0 ++ n1 ++ n2 ++ n3 ∧
    (frameGroups raw s).out.errCode = s.out.errCode := by
  subst hd
  rw [frameGroups, driveGroups_valid h0 h1 h2 h3]
  exact ⟨rfl, rfl, rfl⟩

/-- R211, R215: four nibbles sent over the line code are read back by the groups. -/
theorem frameGroups_of_encoded {raw : Raw21} {start : BitVec 1} {n0 n1 n2 n3 : Nibble}
    (h : raw = rawOf start (diffEncode (groupsOf (gcrPattern n0) (gcrPattern n1) (gcrPattern n2) (gcrPattern n3))))
    (s : State) :
    (frameGroups raw s).out.tlm.gcrOk = true ∧ (frameGroups raw s).out.tlm.decoded = n0 ++ n1 ++ n2 ++ n3 ∧
    (frameGroups raw s).out.errCode = s.out.errCode := by
  have hd : diffDecode (rawData raw) = groupsOf (gcrPattern n0) (gcrPattern n1) (gcrPattern n2) (gcrPattern n3) := by
    rw [h, rawData_rawOf, diffDecode_diffEncode]
  exact frameGroups_of_valid hd (by rw [group0_groupsOf, gcrLookup_gcrPattern])
    (by rw [group1_groupsOf, gcrLookup_gcrPattern]) (by rw [group2_groupsOf, gcrLookup_gcrPattern])
    (by rw [group3_groupsOf, gcrLookup_gcrPattern]) s

/-- R213, R218: with an invalid group the decode ends after the groups: the first invalid one is named, nothing is decoded and
GcrDecodeError is raised. -/
theorem decodeFrame_of_invalid {raw : Raw21} {d : Data20} {j : Nat} {p : GcrCode} (hd : diffDecode (rawData raw) = d)
    (h : firstInvalid 0 [group0 d, group1 d, group2 d, group3 d] = some (j, p)) (s : State) :
    (decodeFrame raw s).out.tlm =
      clearDecoded { s.out.tlm with raw := raw, gcrOk := false, badGroup := BitVec.ofNat 2 j, badPattern := p } ∧
    (decodeFrame raw s).out.errCode = .gcrDecodeError := by
  subst hd
  have hout := driveGroups_invalid h (driveRaw raw s)
  have hbad : (frameGroups raw s).out.tlm.gcrOk = false := by rw [frameGroups, hout]; rfl
  rw [decodeFrame_eq, hbad, if_neg Bool.false_ne_true, frameGroups, hout]
  exact ⟨rfl, rfl⟩

/-- R213: a pattern that is invalid after valid ones is the first invalid one of its list. -/
theorem firstInvalid_eq_some {gs : List GcrCode} {j : Nat} (hj : j < gs.length) (hbad : gcrLookup gs[j] = none)
    (hgood : ∀ (k : Nat) (hk : k < j), gcrLookup gs[k] ≠ none) (i : Nat) : firstInvalid i gs = some (i + j, gs[j]) := by
  induction gs generalizing i j with
  | nil => exact absurd hj (Nat.not_lt_zero j)
  | cons p rest ih =>
    cases j with
    | zero =>
      have hp : gcrLookup p = none := hbad
      simp [firstInvalid, hp]
    | succ j =>
      have hp : gcrLookup p ≠ none := hgood 0 (Nat.succ_pos j)
      have hrest := ih (Nat.lt_of_succ_lt_succ hj) hbad (fun k hk => hgood (k + 1) (Nat.succ_lt_succ hk)) (i + 1)
      simp only [firstInvalid, Option.isSome_iff_ne_none.mpr hp, if_true, hrest, List.getElem_cons_succ]
      rw [Nat.add_right_comm, Nat.add_assoc]

/-- R104, R213, R214: the first invalid group of a word, the groups named by their number: each stands 5 bits below the last. -/
theorem firstInvalid_groups (d : Data20) {j : Fin 4} (hbad : gcrLookup (d.extractLsb' (15 - 5 * j.val) 5) = none)
    (hgood : ∀ k < j, gcrLookup (d.extractLsb' (15 - 5 * k.val) 5) ≠ none) :
    firstInvalid 0 [group0 d, group1 d, group2 d, group3 d] = some (j.val, d.extractLsb' (15 - 5 * j.val) 5) := by
  have hgroup (k : Fin 4) : d.extractLsb' (15 - 5 * k.val) 5 = [group0 d, group1 d, group2 d, group3 d][k.val] := by
    match k with
    | 0 | 1 | 2 | 3 => rfl
  simp only [hgroup] at hbad hgood ⊢
  rw [firstInvalid_eq_some j.isLt hbad (fun k hk => hgood ⟨k, hk.trans j.isLt⟩ hk), Nat.zero_add]

/-- R219, R221: either reading of the word's own payload keeps the groups' fields and the payload, and raises nothing more than a
checksum that does not match. -/
theorem readWord_out (w : Word16) (s : State) :
    (readWord w s).out.tlm.gcrOk = s.out.tlm.gcrOk ∧ (readWord w s).out.tlm.decoded = w ∧
    (readWord w s).out.tlm.payload = decodedPayload w ∧ (readWord w s).out.tlm.crcRx = decodedCrc w ∧
    (readWord w s).out.errCode =
      if decodedCrc w = computeChecksum (decodedPayload w) s.cfg.bidir then s.out.errCode else .checksumMismatch := by
  rw [readWord, interpretPayload, ← ite_validateChecksum]
  split <;> simp [driveDecoded_out]

/-! ### The raw frame's label -/

/-- The state with `raw` as the accumulated frame and as the reported one, the two places of the frame as a whole. -/
def withRaw (raw : Raw21) (s : State) : State :=
  { s with tlm := { s.tlm with sr := raw }, out := { s.out with tlm := { s.out.tlm with raw := raw } } }

/-- R103, R215: the label reaches no lookup. -/
theorem lookupLane_withRaw (raw : Raw21) (p : GcrCode) (s : State) :
    lookupLane p (withRaw raw s) = withRaw raw (lookupLane p s) := by
  have hlanes : (withRaw raw s).out.wires.lanes = s.out.wires.lanes := rfl
  unfold lookupLane
  rw [hlanes]
  dsimp only
  split <;> rfl

theorem driveGroups_withRaw (raw : Raw21) (g0 g1 g2 g3 : GcrCode) (s : State) :
    driveGroups g0 g1 g2 g3 (withRaw raw s) = withRaw raw (driveGroups g0 g1 g2 g3 s) := by
  have hempty : drive (fun o => { o with wires := { o.wires with lanes := [] } }) (withRaw raw s) =
      withRaw raw (drive (fun o => { o with wires := { o.wires with lanes := [] } }) s) := rfl
  have hlanes (t : State) : (withRaw raw t).out.wires.lanes = t.out.wires.lanes := rfl
  unfold driveGroups
  dsimp only
  simp only [hempty, lookupLane_withRaw, hlanes]
  split <;> rfl

theorem driveDecoded_withRaw (raw : Raw21) (p : Data12) (c : Nibble) (s : State) :
    driveDecoded p c (withRaw raw s) = withRaw raw (driveDecoded p c s) := by
  have hcfg : (withRaw raw s).cfg = s.cfg := rfl
  unfold driveDecoded
  rw [hcfg]
  dsimp only
  split <;> rfl

theorem interpretPayload_withRaw (raw : Raw21) (p : Data12) (s : State) :
    interpretPayload p (withRaw raw s) = withRaw raw (interpretPayload p s) := by
  have hcfg : (withRaw raw s).cfg = s.cfg := rfl
  unfold interpretPayload
  rw [hcfg]
  split <;> rfl

/-- R215: an accumulator with the same data bits decodes alike, but for the label. -/
theorem decodeFrame_withRaw {raw raw' : Raw21} (h : rawData raw' = rawData raw) (s : State) :
    decodeFrame raw' { s with tlm := { s.tlm with sr := raw' } } = withRaw raw' (decodeFrame raw s) := by
  have hraw : driveRaw raw' { s with tlm := { s.tlm with sr := raw' } } = withRaw raw' (driveRaw raw s) := by
    unfold driveRaw; rw [h]; rfl
  have hgroups : frameGroups raw' { s with tlm := { s.tlm with sr := raw' } } = withRaw raw' (frameGroups raw s) := by
    unfold frameGroups; rw [h, hraw]; exact driveGroups_withRaw ..
  have hword (w : Word16) (t : State) : readWord w (withRaw raw' t) = withRaw raw' (readWord w t) := by
    rw [readWord, driveDecoded_withRaw, interpretPayload_withRaw, readWord]
  have hok (t : State) : (withRaw raw' t).out.tlm.gcrOk = t.out.tlm.gcrOk := rfl
  have hdecoded (t : State) : (withRaw raw' t).out.tlm.decoded = t.out.tlm.decoded := rfl
  rw [decodeFrame_eq, decodeFrame_eq, hgroups, hok, hdecoded, hword]
  split <;> rfl

/-! ### TLM_FINISH -/

/-- R185, R240: the cleared outputs with the span of the frame that ends at this sample: what TLM_FINISH decodes into. -/
def frameHeader (s : State) : State :=
  { s with out := { Outputs.quiet s.phase s.halted with
      tlm := { TlmRecord.invalid with v := true, startIdx := s.tlm.t0, endIdx := s.sidx } } }

/-- R267: what TLM_FINISH does to a state whose frame is decoded: the phase, the window, the epilogue and the status. -/
def closeTelemetry (t : State) : State :=
  { t with
    phase := .awaitCmd, lastEvt := t.sidx, line := { prevDin := t.ports.din, prevValid := true }, sidx := t.sidx + 1
    out := { t.out with stPhase := .awaitCmd, stHalted := t.halted } }

/-- R267: the epilogue and the status read the ports, the index and the halt, which no decode touches. -/
theorem closeTelemetry_eq {s t : State} (hports : t.ports = s.ports) (hsidx : t.sidx = s.sidx)
    (hhalted : t.halted = s.halted) :
    closeTelemetry t =
      { t with
        phase := .awaitCmd, lastEvt := s.sidx, line := { prevDin := s.ports.din, prevValid := true }, sidx := s.sidx + 1
        out := { t.out with stPhase := .awaitCmd, stHalted := s.halted } } := by
  rw [closeTelemetry, hports, hsidx, hhalted]

/-- R267: TLM_FINISH decodes the accumulated frame into its header and closes it. -/
theorem exec_tlmFinish (s : State) :
    exec .tlmFinish s = .next (closeTelemetry (decodeFrame s.tlm.sr (frameHeader s))) := by
  have hclose (t : State) : closeTelemetry t = driveStatus (epilogue (restartWindow t.sidx (goTo .awaitCmd t))) := rfl
  rw [hclose, decodeFrame_sidx]
  rfl

/-- R103, R104: the rows of the raw frame and of its groups are the first part of the decode. -/
theorem execAll_frameGroups (raw : Raw21) (s : State) :
    Spec.execAll [decodeRaw raw, decodeGroups (diffDecode (rawData raw))] s = .next (frameGroups raw s) := by
  have hraw : exec (decodeRaw raw) s = .next (driveRaw raw s) := by
    have hexec : exec (decodeRaw raw) s = .next (driveRaw (rawOf (rawStart raw) (rawData raw)) s) := rfl
    rw [hexec, rawOf_fields]
  rw [Spec.execAll, hraw]
  rfl

/-- R105 to R107: the rows of the decoded word and of its payload are the second part. -/
theorem execAll_readWord (w : Word16) (s : State) :
    Spec.execAll [decodeTlmWord w,
      if s.cfg.edtForced then .tlmEdt (decodedPayload w) else decodeErpm (decodedPayload w)] s =
      .next (readWord w s) := by
  rw [readWord, interpretPayload, driveDecoded_cfg]
  cases s.cfg.edtForced <;> rfl

end Sys2Proof.Machine
end

section
/-! The obligations on the telemetry line code and on TLM_FINISH's decode. -/

namespace Sys2Proof.Proofs

open Sys2Proof.Machine

/-- Settles O19: the table and the differential code are read back, so every group is valid and the nibbles form the word. -/
theorem telemetryWordSurvivesTheLine : Obligations.TelemetryWordSurvivesTheLine := by
  unfold Obligations.TelemetryWordSurvivesTheLine
  intro s w start hsr
  obtain ⟨hok, hdecoded, herr⟩ := frameGroups_of_encoded hsr (frameHeader s)
  rw [nibbles_append] at hdecoded
  have hframe : decodeFrame s.tlm.sr (frameHeader s) = readWord w (frameGroups s.tlm.sr (frameHeader s)) := by
    rw [decodeFrame_eq, hok, hdecoded, if_pos rfl]
  obtain ⟨hread, hword, hpayload, hcrc, hcheck⟩ := readWord_out w (frameGroups s.tlm.sr (frameHeader s))
  rw [← hframe] at hread hword hpayload hcrc hcheck
  rw [frameGroups_cfg, herr] at hcheck
  exact ⟨_, exec_tlmFinish s, hread.trans hok, hword, hpayload, hcrc, hcheck⟩

/-- Settles O18: the rows run the two parts of the decode, the second exactly when every group decoded. -/
theorem telemetryFinishRunsTheFormatInstructions : Obligations.TelemetryFinishRunsTheFormatInstructions := by
  unfold Obligations.TelemetryFinishRunsTheFormatInstructions
  intro s x d header
  refine ⟨frameGroups s.tlm.sr header, decodeFrame s.tlm.sr header, execAll_frameGroups _ _, ?_, ?_⟩
  · rw [decodeFrame_eq]
    split
    · have hread := execAll_readWord (frameGroups s.tlm.sr header).out.tlm.decoded (frameGroups s.tlm.sr header)
      rw [frameGroups_cfg] at hread
      exact hread
    · rfl
  · exact (exec_tlmFinish s).trans (congrArg Host.Outcome.next
      (closeTelemetry_eq (decodeFrame_ports ..) (decodeFrame_sidx ..) (decodeFrame_halted ..)))

/-- Settles O20: the decode reads the data bits alone, so another start-framing bit changes the label of the frame. -/
theorem startFramingBitIsDiscarded : Obligations.StartFramingBitIsDiscarded := by
  unfold Obligations.StartFramingBitIsDiscarded
  intro s x b c
  refine ⟨_, exec_tlmFinish _, ?_⟩
  have hdata : rawData (rawOf c x) = rawData (rawOf b x) := by rw [rawData_rawOf, rawData_rawOf]
  have hframe := decodeFrame_withRaw hdata (frameHeader { s with tlm := { s.tlm with sr := rawOf b x } })
  exact (exec_tlmFinish _).trans (congrArg (fun t => Host.Outcome.next (closeTelemetry t)) hframe)

/-- Settles O21: the first invalid group ends the decode. -/
theorem firstInvalidGroupIsReported : Obligations.FirstInvalidGroupIsReported := by
  unfold Obligations.FirstInvalidGroupIsReported
  intro s j x d g hbad hgood
  obtain ⟨hrecord, herr⟩ :=
    decodeFrame_of_invalid (raw := s.tlm.sr) (d := d) rfl (firstInvalid_groups d hbad hgood) (frameHeader s)
  exact ⟨_, exec_tlmFinish s, hrecord, herr⟩

/-- Settles O39: the decode's bits by its definition, and its inverse by the doubling of shifts. -/
theorem differentialDecodeInverts : Obligations.DifferentialDecodeInverts := by
  unfold Obligations.DifferentialDecodeInverts
  have hbit (x : Data20) (j : Nat) : (diffDecode x).getLsbD j = (x.getLsbD j ^^ x.getLsbD (j + 1)) := by
    rw [diffDecode_eq_xorShift, getLsbD_xorShift, Nat.add_comm]
  refine ⟨fun x => ⟨?_, fun j _ => hbit x j⟩, diffDecode_diffEncode, diffEncode_diffDecode⟩
  rw [hbit, BitVec.getLsbD_of_ge x 20 le_rfl, Bool.xor_false]

/-- Settles O25: each row is the lookup of its code, which finds its nibble. -/
theorem validCodesGiveTheirNibbles : Obligations.ValidCodesGiveTheirNibbles := by
  unfold Obligations.ValidCodesGiveTheirNibbles
  intro row hrow s
  have hcode : decodeGcr row.2.1 = row.1 ∧ gcrLookup row.2.1 = some row.2.2 := by revert row; decide
  obtain ⟨hdecode, hlookup⟩ := hcode
  refine ⟨hdecode, ?_⟩
  rw [← hdecode, exec_decodeGcr, lookupLane_eq, lookupLane_valid hlookup]

/-- Settles O26: each row is the lookup of its code, which finds none. -/
theorem invalidCodesAreNamed : Obligations.InvalidCodesAreNamed := by
  unfold Obligations.InvalidCodesAreNamed
  intro row hrow s
  have hcode : decodeGcr row.2 = row.1 ∧ gcrLookup row.2 = none := by revert row; decide
  obtain ⟨hdecode, hlookup⟩ := hcode
  refine ⟨hdecode, ?_⟩
  rw [← hdecode, exec_decodeGcr, lookupLane_eq, lookupLane_invalid hlookup]

/-- Settles O27: the two lookups of the table are inverse to each other. -/
theorem gcrTableIsABijection : Obligations.GcrTableIsABijection := by
  unfold Obligations.GcrTableIsABijection
  exact ⟨fun n => ⟨gcrPattern n, gcrLookup_gcrPattern n, fun _ => gcrPattern_of_gcrLookup⟩, rfl⟩

end Sys2Proof.Proofs
end

section
/-! SUPPORT. The step operations as whole-state updates: the words that select a row of R91's table, what surrounds every operation,
each effect by the registers it writes, and the move that a step takes. -/

namespace Sys2Proof.Machine

open Sys2Proof.Safety

/-! ### The rows of the selection table (R91) -/

/-- R91: no two rows of the table name one operation. -/
theorem selectTable_operations_unique :
    ∀ row ∈ Spec.selectTable, ∀ row' ∈ Spec.selectTable, row'.2.2 = row.2.2 → row' = row := by decide

/-- R91: as the rows partition the words, a row's operation is selected by exactly the words that match it. -/
theorem selectedBy_of_row {mask pat : SelectWord} {i : Instr} (hrow : (mask, pat, i) ∈ Spec.selectTable) :
    Spec.SelectedBy i pat mask := by
  intro w
  have hselected : i ∈ (Spec.selectTable.filter fun row => w &&& row.1 == row.2.1).map (fun row => row.2.2) ↔
      decodeStep w = i := by
    rw [Proofs.selectTablePartitionsTheWords w, List.mem_singleton, eq_comm]
  rw [← hselected, List.mem_map]
  constructor
  · rintro ⟨row, hfilter, hop⟩
    obtain ⟨htable, hmatch⟩ := List.mem_filter.mp hfilter
    obtain rfl := selectTable_operations_unique _ hrow _ htable hop
    exact eq_of_beq hmatch
  · intro hw
    exact ⟨_, List.mem_filter.mpr ⟨hrow, beq_iff_eq.mpr hw⟩, rfl⟩

/-! ### The frame of every operation (R240, R243) -/

/-- R240, R243, R44: around an operation's own effect, what the epilogue and the status write. -/
theorem runOperation_update (body : State → State) (s : State) :
    runOperation body s =
      let t := body (beginStep s)
      { t with
        line := { prevDin := t.ports.din, prevValid := true }, sidx := t.sidx + 1
        out := { t.out with stPhase := t.phase, stHalted := t.halted } } := rfl

/-! ### The telemetry effects as register updates -/

/-- R261: giving the wait up writes the phase, the window and the event. -/
theorem tlmExpire_eq (s : State) :
    tlmExpire s =
      { s with phase := .awaitCmd, lastEvt := s.sidx, out := { s.out with evTlmExpired := true } } := rfl

/-- R262: the start of a frame writes the telemetry accumulator and the phase. -/
theorem tlmStart_eq (s : State) :
    tlmStart s =
      { s with tlm := { t0 := s.sidx, sr := 0, cnt := 0, next := s.sidx + s.tim.h }, phase := .recvTlm } := rfl

/-- R264: a sampling point writes the telemetry accumulator and the bit record. -/
theorem tlmSample_update (s : State) :
    tlmSample s =
      { s with
        tlm := { s.tlm with
          sr := shiftIn s.tlm.sr s.ports.din, cnt := s.tlm.cnt + 1
          next := if s.tlm.cnt + 1 < Config.tlmFrameBits then s.sidx + 2 * s.tim.h else s.sidx + s.tim.h }
        out := { s.out with bit := telemetryBit s.ports.din false s } } := by
  rw [tlmSample_eq]; rfl

/-! ### The finalised command frame (R170, R176, R250) -/

/-- R170, R244: what the flush writes, field by field: the accumulator's bits, their count and their end, and the bit record. -/
theorem flushPending_eq (e : Nat) (s : State) :
    flushPending e s =
      let flush := s.pend.psV && s.pend.pmV
      let v := classifyCommandBit s.pend.ps s.pend.pm e
      { s with
        cmd := { s.cmd with
          sr := if flush then shiftIn s.cmd.sr v else s.cmd.sr
          cnt := if flush then min (s.cmd.cnt + 1) Config.cmdCntMax else s.cmd.cnt
          lastEnd := if flush then e else s.cmd.lastEnd }
        out := { s.out with bit := if flush then pendingBit e s else s.out.bit } } := by
  unfold flushPending
  cases s.pend.psV && s.pend.pmV <;> rfl

/-- R176, R250, R253: what finalising and closing the frame of the accumulator writes: the record of a frame of at least 16 bits,
its error, and, of a valid one, the memory of its end and the phase it opens. -/
theorem closeFrame_cmdFinalize (u : State) :
    closeFrame (cmdResult u) (cmdFinalize u) =
      let complete := decide (Config.cmdFrameBits ≤ u.cmd.cnt)
      let ok := validateChecksum (cmdData12 u.cmd.sr) (cmdCrc u.cmd.sr) u.cfg.bidir
      { u with
        lc := if complete && ok then { v := true, endIdx := u.cmd.lastEnd } else u.lc
        phase := if complete && ok && u.cfg.bidir then .awaitTlm else .awaitCmd
        out := { u.out with
          cmd := if complete then
              cmdRecordOf (cmdValue u.cmd.sr) (cmdTreq u.cmd.sr) (cmdCrc u.cmd.sr) (cmdData12 u.cmd.sr) u
            else u.out.cmd
          errCode := if complete && !ok then .checksumMismatch else u.out.errCode } } := by
  obtain ⟨hlt, hresult, hrecord⟩ | ⟨hle, hresult, hrecord⟩ := cmdFinalize_cases u
  · simp only [hresult, hrecord, decide_eq_false (Nat.not_le.mpr hlt)]
    rfl
  · simp only [hresult, hrecord, decide_eq_true hle, emitCmdFrame]
    cases validateChecksum (cmdData12 u.cmd.sr) (cmdCrc u.cmd.sr) u.cfg.bidir <;> rfl

/-! ### The move that a step takes (R82, R240) -/

/-- R240: a sample below the index limit, or given to a halted block, is presented and runs the operation that it selects. -/
theorem step_of_sample {s : State} {din : Bool} {rest : List HostMove} (hin : s.inputs = .sample din :: rest)
    (hlim : s.halted = true ∨ s.sidx < Config.sampleLimit) :
    step s = exec (decodeStep (stepSelect (withSample din rest s))) (withSample din rest s) := by
  have hshort : ¬ streamExhausted (withSample din rest s) = true := by
    rw [streamExhausted_iff]
    rintro ⟨-, hrun, hlong⟩
    obtain hh | hlt := hlim
    · exact absurd (hh.symm.trans hrun) (by decide)
    · exact absurd hlt (Nat.not_lt.mpr hlong)
  have hmove : takeMove s = some (withSample din rest s) := by rw [takeMove, hin]
  rw [step, hmove]
  exact if_neg hshort

/-- R110, R340: a reset is presented and runs the baud option of its code. -/
theorem step_of_reset {s : State} {cfg : CfgInputs} {rest : List HostMove} (hin : s.inputs = .reset cfg :: rest) :
    step s = exec (decodeBaud cfg.baudSel)
      { s with inputs := rest, ports := { s.ports with rst := true, cfg := cfg } } := by
  rw [step, takeMove, hin]
  rfl

end Sys2Proof.Machine
end

section
/-! The obligations on the step and on the whole state after each operation. -/

namespace Sys2Proof.Proofs

open Sys2Proof.Machine Sys2Proof.Safety

/-- Settles O13: the flush's fields go into the closing of the frame, and the timeout empties the rest. -/
theorem timeoutFlushesFinalisesAndClears : Obligations.TimeoutFlushesFinalisesAndClears := by
  unfold Obligations.TimeoutFlushesFinalisesAndClears
  refine ⟨selectedBy_of_row (by decide), fun s => ?_⟩
  intro i flush e v w n lastEnd rx crc4 complete ok next
  rw [show exec .cmdTimeout s = .next (runOperation cmdTimeout s) from rfl, runOperation_update, cmdTimeout,
    closeFrame_cmdFinalize, flushPending_eq]
  simp only [cmdRecordOf, cmdWordOf_fields]
  rfl

/-- Settles O8: HALT's arm writes the outputs alone. -/
theorem haltChangesNoRegister : Obligations.HaltChangesNoRegister := by
  unfold Obligations.HaltChangesNoRegister
  exact ⟨selectedBy_of_row (by decide), fun s => exec_halt s⟩

/-- Settles O10: the three operations have no effect of their own. -/
theorem waitingOperationsOnlyPassTheSample : Obligations.WaitingOperationsOnlyPassTheSample := by
  unfold Obligations.WaitingOperationsOnlyPassTheSample
  intro row hrow
  simp only [List.mem_cons, List.not_mem_nil, or_false] at hrow
  obtain rfl | rfl | rfl := hrow
  · exact ⟨selectedBy_of_row (by decide), fun s => rfl⟩
  · exact ⟨selectedBy_of_row (by decide), fun s => rfl⟩
  · exact ⟨selectedBy_of_row (by decide), fun s => rfl⟩

/-- Settles O11: the flush's fields, then a new bit and a new window at this sample. -/
theorem startEdgeFlushesAndBeginsABit : Obligations.StartEdgeFlushesAndBeginsABit := by
  unfold Obligations.StartEdgeFlushesAndBeginsABit
  refine ⟨selectedBy_of_row (by decide), fun s => ?_⟩
  intro i flush v
  rw [show exec .cmdStartEdge s = .next (runOperation cmdStartEdge s) from rfl, runOperation_update, cmdStartEdge_eq,
    flushPending_eq]
  rfl

/-- Settles O12: the end edge writes the mid of a bit that has none, and the window. -/
theorem endEdgeCompletesTheDuty : Obligations.EndEdgeCompletesTheDuty := by
  unfold Obligations.EndEdgeCompletesTheDuty
  refine ⟨selectedBy_of_row (by decide), fun s => ?_⟩
  rw [show exec .cmdEndEdge s = .next (runOperation cmdEndEdge s) from rfl, runOperation_update, cmdEndEdge_eq]
  rfl

/-- Settles O14: the expiry writes the phase, the window and the event. -/
theorem expiryReturnsToTheCommandPhase : Obligations.ExpiryReturnsToTheCommandPhase := by
  unfold Obligations.ExpiryReturnsToTheCommandPhase
  refine ⟨selectedBy_of_row (by decide), fun s => ?_⟩
  rw [show exec .tlmExpire s = .next (runOperation tlmExpire s) from rfl, runOperation_update, tlmExpire_eq]
  rfl

/-- Settles O15: the start of a frame writes the telemetry accumulator and the phase. -/
theorem telemetryStartBeginsAFrame : Obligations.TelemetryStartBeginsAFrame := by
  unfold Obligations.TelemetryStartBeginsAFrame
  refine ⟨selectedBy_of_row (by decide), fun s => ?_⟩
  rw [show exec .tlmStart s = .next (runOperation tlmStart s) from rfl, runOperation_update, tlmStart_eq]
  rfl

/-- Settles O16: a sampling point writes the telemetry accumulator and the bit record. -/
theorem telemetrySampleAppendsTheLevel : Obligations.TelemetrySampleAppendsTheLevel := by
  unfold Obligations.TelemetrySampleAppendsTheLevel
  refine ⟨selectedBy_of_row (by decide), fun s => ?_⟩
  rw [show exec .tlmSample s = .next (runOperation tlmSample s) from rfl, runOperation_update, tlmSample_update]
  rfl

/-- Settles O1: the limit stops neither a halted block nor a sample below it, and a reset is never stopped. -/
theorem stepRunsTheDecodedInstruction : Obligations.StepRunsTheDecodedInstruction := by
  unfold Obligations.StepRunsTheDecodedInstruction
  exact fun s => ⟨fun din rest hin hlim => step_of_sample hin hlim, fun cfg rest hin => step_of_reset hin⟩

end Sys2Proof.Proofs
end

section
/-! SUPPORT. TLM_FINISH's record and error (R185, R216) against the one-piece reference function. -/

namespace Sys2Proof.Machine

/-! ### The reference record, by the groups of the frame -/

/-- R216 to R221: the reference record of a frame whose four groups are valid. -/
theorem telemetryRecord_of_valid {raw : Raw21} {d : Data20} {n0 n1 n2 n3 : Nibble} (hd : diffDecode (rawData raw) = d)
    (h0 : gcrLookup (group0 d) = some n0) (h1 : gcrLookup (group1 d) = some n1) (h2 : gcrLookup (group2 d) = some n2)
    (h3 : gcrLookup (group3 d) = some n3) (bidir edt : Bool) (t0 i : Nat) :
    Spec.telemetryRecord raw bidir edt t0 i =
      let w : Word16 := n0 ++ n1 ++ n2 ++ n3
      let p := decodedPayload w
      { v := true, raw := raw, gcrOk := true, badGroup := 0, badPattern := 0, decoded := w, payload := p
        crcRx := decodedCrc w, crcCalc := computeChecksum p bidir, crcOk := validateChecksum p (decodedCrc w) bidir
        kind := if edt then .edtNotImplemented else .erpm
        exp := if edt then 0 else erpmExp p
        mant := if edt then 0 else erpmMant p
        periodUs := if edt then 0 else erpmPeriod (erpmExp p) (erpmMant p)
        startIdx := t0, endIdx := i } := by
  subst hd
  unfold Spec.telemetryRecord
  extract_lets x d g0 g1 g2 g3
  rw [show gcrLookup g0 = some n0 from h0, show gcrLookup g1 = some n1 from h1, show gcrLookup g2 = some n2 from h2,
    show gcrLookup g3 = some n3 from h3]
  rfl

/-- R213, R218: the reference record of a frame with an invalid group. -/
theorem telemetryRecord_of_invalid {raw : Raw21} {d : Data20} {j : Nat} {p : GcrCode}
    (hd : diffDecode (rawData raw) = d) (h : firstInvalid 0 [group0 d, group1 d, group2 d, group3 d] = some (j, p))
    (bidir edt : Bool) (t0 i : Nat) :
    Spec.telemetryRecord raw bidir edt t0 i =
      { TlmRecord.invalid with
        v := true, raw := raw, badGroup := BitVec.ofNat 2 j, badPattern := p, startIdx := t0, endIdx := i } := by
  subst hd
  unfold Spec.telemetryRecord
  extract_lets x d g0 g1 g2 g3
  change firstInvalid 0 [g0, g1, g2, g3] = some (j, p) at h
  rcases h0 : gcrLookup g0 with _ | n0
  · obtain ⟨rfl, rfl⟩ : 0 = j ∧ g0 = p := by simpa [firstInvalid, h0] using h
    rfl
  rcases h1 : gcrLookup g1 with _ | n1
  · obtain ⟨rfl, rfl⟩ : 1 = j ∧ g1 = p := by simpa [firstInvalid, h0, h1] using h
    rfl
  rcases h2 : gcrLookup g2 with _ | n2
  · obtain ⟨rfl, rfl⟩ : 2 = j ∧ g2 = p := by simpa [firstInvalid, h0, h1, h2] using h
    rfl
  rcases h3 : gcrLookup g3 with _ | n3
  · obtain ⟨rfl, rfl⟩ : 3 = j ∧ g3 = p := by simpa [firstInvalid, h0, h1, h2, h3] using h
    rfl
  · simp [firstInvalid, h0, h1, h2, h3] at h

/-! ### The decode of a whole frame -/

/-- R217 to R221: every field of the record that the reading of a decoded word writes. -/
theorem readWord_tlm (w : Word16) (s : State) :
    (readWord w s).out.tlm =
      let p := decodedPayload w
      { s.out.tlm with
        decoded := w, payload := p, crcRx := decodedCrc w, crcCalc := computeChecksum p s.cfg.bidir
        crcOk := validateChecksum p (decodedCrc w) s.cfg.bidir
        kind := if s.cfg.edtForced then .edtNotImplemented else .erpm
        exp := if s.cfg.edtForced then 0 else erpmExp p
        mant := if s.cfg.edtForced then 0 else erpmMant p
        periodUs := if s.cfg.edtForced then 0 else erpmPeriod (erpmExp p) (erpmMant p) } := by
  rw [readWord, interpretPayload, driveDecoded_cfg]
  cases s.cfg.edtForced <;> simp [driveDecoded_out]

/-- R185, R216: the decode of the accumulated frame gives the reference record, whichever groups are valid. -/
theorem decodeFrame_frameHeader_tlm (s : State) :
    (decodeFrame s.tlm.sr (frameHeader s)).out.tlm =
      Spec.telemetryRecord s.tlm.sr s.cfg.bidir s.cfg.edtForced s.tlm.t0 s.sidx := by
  generalize hd : diffDecode (rawData s.tlm.sr) = d
  obtain ⟨n0, n1, n2, n3, h0, h1, h2, h3⟩ | ⟨j, p, -, hfirst⟩ :=
    groups_cases (group0 d) (group1 d) (group2 d) (group3 d)
  · obtain ⟨hok, hdecoded, -⟩ := frameGroups_of_valid hd h0 h1 h2 h3 (frameHeader s)
    rw [decodeFrame_eq, hok, hdecoded, if_pos rfl, readWord_tlm, frameGroups_cfg,
      telemetryRecord_of_valid hd h0 h1 h2 h3, frameGroups, hd, driveGroups_valid h0 h1 h2 h3]
    rfl
  · rw [(decodeFrame_of_invalid hd hfirst (frameHeader s)).1, telemetryRecord_of_invalid hd hfirst]
    rfl

/-- R185, R303, R304: the error of the decode is the one that goes with its record. -/
theorem decodeFrame_frameHeader_errCode (s : State) :
    (decodeFrame s.tlm.sr (frameHeader s)).out.errCode =
      Spec.telemetryError (decodeFrame s.tlm.sr (frameHeader s)).out.tlm := by
  generalize hd : diffDecode (rawData s.tlm.sr) = d
  obtain ⟨n0, n1, n2, n3, h0, h1, h2, h3⟩ | ⟨j, p, -, hfirst⟩ :=
    groups_cases (group0 d) (group1 d) (group2 d) (group3 d)
  · obtain ⟨hok, hdecoded, herr⟩ := frameGroups_of_valid hd h0 h1 h2 h3 (frameHeader s)
    rw [decodeFrame_eq, hok, hdecoded, if_pos rfl]
    obtain ⟨hread, -, -, -, hcheck⟩ := readWord_out (n0 ++ n1 ++ n2 ++ n3) (frameGroups s.tlm.sr (frameHeader s))
    have hquiet : (frameHeader s).out.errCode = .none := rfl
    rw [hcheck, Spec.telemetryError, hread.trans hok, readWord_tlm, herr, hquiet]
    simp [validateChecksum]
  · obtain ⟨hrecord, herr⟩ := decodeFrame_of_invalid hd hfirst (frameHeader s)
    rw [hrecord, herr]
    rfl

/-- R267: beside the record, the error and the decoder's signals, a finished frame leaves the outputs quiet. -/
theorem closeTelemetry_decodeFrame (s : State) :
    closeTelemetry (decodeFrame s.tlm.sr (frameHeader s)) =
      let o := (decodeFrame s.tlm.sr (frameHeader s)).out
      { s with
        phase := .awaitCmd, lastEvt := s.sidx, line := { prevDin := s.ports.din, prevValid := true }, sidx := s.sidx + 1
        out := { Outputs.quiet .awaitCmd s.halted with tlm := o.tlm, errCode := o.errCode, wires := o.wires } } := by
  obtain ⟨hbit, hcmd, hexpired, -⟩ := decodeFrame_kept s.tlm.sr (frameHeader s)
  have hframe : decodeFrame s.tlm.sr (frameHeader s) =
      { frameHeader s with out := (decodeFrame s.tlm.sr (frameHeader s)).out } := by
    apply eq_with_out <;> simp
  rw [closeTelemetry, hframe]
  dsimp only
  rw [hbit, hcmd, hexpired]
  rfl

end Sys2Proof.Machine
end

section
/-! The obligations on TLM_FINISH's record and on the epilogue. -/

namespace Sys2Proof.Proofs

open Sys2Proof.Machine

/-- Settles O17: the stages' record and error are the reference's, and beside them the frame's end writes four registers. -/
theorem telemetryFinishMatchesTheReferenceDecode : Obligations.TelemetryFinishMatchesTheReferenceDecode := by
  unfold Obligations.TelemetryFinishMatchesTheReferenceDecode
  refine ⟨selectedBy_of_row (by decide), fun s => ?_⟩
  exact ⟨_, exec_tlmFinish s, decodeFrame_frameHeader_tlm s, decodeFrame_frameHeader_errCode s,
    closeTelemetry_decodeFrame s⟩

/-- Settles O9: each operation's whole state shows the epilogue, and the configuration as it was. -/
theorem everyOperationEndsWithTheEpilogue : Obligations.EveryOperationEndsWithTheEpilogue := by
  unfold Obligations.EveryOperationEndsWithTheEpilogue
  intro i hi s
  obtain ⟨-, hstartEdge⟩ := startEdgeFlushesAndBeginsABit
  obtain ⟨-, hendEdge⟩ := endEdgeCompletesTheDuty
  obtain ⟨-, htimeout⟩ := timeoutFlushesFinalisesAndClears
  obtain ⟨-, hidle⟩ := waitingOperationsOnlyPassTheSample (.cmdIdle, 0x00, 0xDA) (by simp)
  obtain ⟨-, hexpire⟩ := expiryReturnsToTheCommandPhase
  obtain ⟨-, hstart⟩ := telemetryStartBeginsAFrame
  obtain ⟨-, hwait⟩ := waitingOperationsOnlyPassTheSample (.tlmWait, 0x40, 0xE6) (by simp)
  obtain ⟨-, hsample⟩ := telemetrySampleAppendsTheLevel
  obtain ⟨-, hskip⟩ := waitingOperationsOnlyPassTheSample (.tlmSkip, 0x60, 0xE2) (by simp)
  have hfinish := (exec_tlmFinish s).trans (congrArg Host.Outcome.next (closeTelemetry_decodeFrame s))
  simp only [Spec.sampleOperations, List.mem_cons, List.not_mem_nil, or_false] at hi
  obtain rfl | rfl | rfl | rfl | rfl | rfl | rfl | rfl | rfl | rfl := hi
  · exact ⟨_, hstartEdge s, rfl, rfl, rfl, rfl, rfl, rfl, rfl⟩
  · exact ⟨_, hendEdge s, rfl, rfl, rfl, rfl, rfl, rfl, rfl⟩
  · exact ⟨_, htimeout s, rfl, rfl, rfl, rfl, rfl, rfl, rfl⟩
  · exact ⟨_, hidle s, rfl, rfl, rfl, rfl, rfl, rfl, rfl⟩
  · exact ⟨_, hexpire s, rfl, rfl, rfl, rfl, rfl, rfl, rfl⟩
  · exact ⟨_, hstart s, rfl, rfl, rfl, rfl, rfl, rfl, rfl⟩
  · exact ⟨_, hwait s, rfl, rfl, rfl, rfl, rfl, rfl, rfl⟩
  · exact ⟨_, hsample s, rfl, rfl, rfl, rfl, rfl, rfl, rfl⟩
  · exact ⟨_, hfinish, rfl, rfl, rfl, rfl, rfl, rfl, rfl⟩
  · exact ⟨_, hskip s, rfl, rfl, rfl, rfl, rfl, rfl, rfl⟩

end Sys2Proof.Proofs
end

section
/-! SUPPORT. The phase transitions (R268), and the gate of the telemetry wait that rests on them (R250, R253). -/

namespace Sys2Proof.Machine

open Sys2Proof.Safety

/-! ### The transition table (R268) -/

/-- R28: a command phase is AWAIT_CMD or RECV_CMD. -/
theorem commandPhase_iff (p : Phase) : commandPhase p = true ↔ p = .awaitCmd ∨ p = .recvCmd := by
  cases p <;> decide

@[simp] theorem cmdStartEdge_phase (s : State) : (cmdStartEdge s).phase = .recvCmd := by rw [cmdStartEdge_eq]
@[simp] theorem tlmExpire_phase (s : State) : (tlmExpire s).phase = .awaitCmd := rfl
@[simp] theorem tlmStart_phase (s : State) : (tlmStart s).phase = .recvTlm := rfl
@[simp] theorem tlmSample_phase (s : State) : (tlmSample s).phase = s.phase := by rw [tlmSample_update]
@[simp] theorem tlmFinish_phase (s : State) : (tlmFinish s).phase = .awaitCmd := rfl

/-- R250: the timeout leads to one of two phases. -/
theorem cmdTimeout_phase (s : State) : (cmdTimeout s).phase = .awaitCmd ∨ (cmdTimeout s).phase = .awaitTlm :=
  (cmdTimeout_phase_cases s).imp_right And.left

/-- R240: the phase after an operation is the one that its own effect leaves. -/
@[simp] theorem runOperation_phase (body : State → State) (s : State) :
    (runOperation body s).phase = (body (beginStep s)).phase := rfl

/-- R268: the selected operation, with the phases before and after, is a row of the table. -/
theorem SelectedEffect.transition {s : State} {body : State → State} (h : SelectedEffect s body)
    (hrun : s.halted = false) :
    (decodeStep (stepSelect s), s.phase, (runOperation body s).phase) ∈ Spec.transitions := by
  rw [runOperation_phase]
  cases h with
  | startEdge command edge =>
    have hop : decodeStep (stepSelect s) = .cmdStartEdge := by
      rw [decodeStep_stepSelect_command hrun command, if_pos edge]
    obtain hp | hp := (commandPhase_iff _).mp command <;> simp [hop, hp, Spec.transitions]
  | endEdge command edge =>
    have hstart : startEdgeNow s = false := by simp [startEdgeNow_eq, din_of_endEdgeNow edge]
    have hop : decodeStep (stepSelect s) = .cmdEndEdge := by
      simp [decodeStep_stepSelect_command hrun command, hstart, edge]
    obtain hp | hp := (commandPhase_iff _).mp command <;> simp [hop, hp, Spec.transitions]
  | timeout command noEdge due =>
    have hop : decodeStep (stepSelect s) = .cmdTimeout := by
      simp [decodeStep_stepSelect_command hrun command, startEdgeNow_eq, endEdgeNow_eq, noEdge, due]
    obtain hp | hp := (commandPhase_iff _).mp command <;> obtain hq | hq := cmdTimeout_phase (Machine.beginStep s) <;>
      simp [hop, hp, hq, Spec.transitions]
  | idle command noEdge notDue =>
    have hop : decodeStep (stepSelect s) = .cmdIdle := by
      simp [decodeStep_stepSelect_command hrun command, startEdgeNow_eq, endEdgeNow_eq, noEdge, notDue]
    obtain hp | hp := (commandPhase_iff _).mp command <;> simp [hop, hp, Spec.transitions]
  | expire await past =>
    simp [decodeStep_stepSelect_awaitTlm hrun await, past, await, Spec.transitions]
  | start await within edge =>
    simp [decodeStep_stepSelect_awaitTlm hrun await, within, edge, await, Spec.transitions]
  | wait await within noEdge =>
    simp [decodeStep_stepSelect_awaitTlm hrun await, within, noEdge, await, Spec.transitions]
  | sample receive due notFull =>
    simp [decodeStep_stepSelect_recvTlm hrun receive, due, notFull, receive, Spec.transitions]
  | finish receive due full =>
    simp [decodeStep_stepSelect_recvTlm hrun receive, due, full, receive, Spec.transitions]
  | skip receive notDue =>
    simp [decodeStep_stepSelect_recvTlm hrun receive, notDue, receive, Spec.transitions]

/-- R82, R240: a sample's step is HALT's in a halted block, and in a running one the operation that the sample selects. -/
theorem step_sample_cases {s t : State} {din : Bool} {rest : List HostMove} (hin : s.inputs = .sample din :: rest)
    (hstep : step s = .next t) :
    (s.halted = true ∧ t.phase = s.phase) ∨
    (s.halted = false ∧ ∃ body, SelectedEffect (withSample din rest s) body ∧
      t = runOperation body (withSample din rest s)) := by
  obtain ⟨hstop, -⟩ | ⟨cfg, rest', hreset, -⟩ | ⟨din', rest', hin', hhalt, rfl⟩ |
    ⟨din', rest', body, hin', hrun, -, heffect, rfl⟩ := step_next_effect hstep
  · simp [hin] at hstop
  · simp [hin] at hreset
  · exact .inl ⟨hhalt, rfl⟩
  · obtain ⟨rfl, rfl⟩ : din = din' ∧ rest = rest' := by simpa [hin] using hin'
    exact .inr ⟨hrun, body, heffect, rfl⟩

/-! ### The gate of the telemetry wait (R250, R253) -/

/-- R253: a frame that opens the wait is complete and valid, in bidirectional mode; its record gives the end remembered. -/
theorem closeFrame_opens_wait {u : State} (h : (closeFrame (cmdResult u) (cmdFinalize u)).phase = .awaitTlm) :
    u.cfg.bidir = true ∧ (cmdFinalize u).out.cmd.v = true ∧ (cmdFinalize u).out.cmd.crcOk = true ∧
    (closeFrame (cmdResult u) (cmdFinalize u)).lc = { v := true, endIdx := (cmdFinalize u).out.cmd.endIdx } := by
  rw [closeFrame_phase, cmdFinalize_cfg] at h
  obtain ⟨hvalid, hbidir⟩ : cmdResult u = .complete true ∧ u.cfg.bidir = true := by
    by_contra hnot
    rw [if_neg hnot] at h
    cases h
  obtain ⟨-, hresult, -⟩ | ⟨-, hresult, hrecord⟩ := cmdFinalize_cases u
  · simp [hresult] at hvalid
  · have hok : validateChecksum (cmdData12 u.cmd.sr) (cmdCrc u.cmd.sr) u.cfg.bidir = true := by
      simpa [hresult] using hvalid
    rw [closeFrame_lc, if_pos hvalid, cmdFinalize_cmd, hrecord, emitCmdFrame_out]
    exact ⟨hbidir, rfl, hok, rfl⟩

/-- R253: the timeout that enters AWAIT_TLM emits the valid record whose end it remembers. -/
theorem cmdTimeout_opens_wait {s : State} (h : (runOperation cmdTimeout s).phase = .awaitTlm) :
    s.cfg.bidir = true ∧ (runOperation cmdTimeout s).out.cmd.v = true ∧
    (runOperation cmdTimeout s).out.cmd.crcOk = true ∧
    (runOperation cmdTimeout s).lc = { v := true, endIdx := (runOperation cmdTimeout s).out.cmd.endIdx } := by
  simp only [runOperation_eq, cmdTimeout, driveStatus_phase, epilogue_phase, restartWindow_phase, cmdClear_phase,
    driveStatus_out, epilogue_out, restartWindow_out, cmdClear_out, closeFrame_out, driveStatus_lc, epilogue_lc,
    restartWindow_lc, cmdClear_lc] at h ⊢
  obtain ⟨hbidir, hrecord⟩ := closeFrame_opens_wait h
  rw [flushPending_cfg] at hbidir
  exact ⟨hbidir, hrecord⟩

/-- R268: AWAIT_TLM is entered from a command phase, by the timeout alone. -/
theorem SelectedEffect.enters_awaitTlm {s : State} {body : State → State} (h : SelectedEffect s body)
    (hfrom : s.phase ≠ .awaitTlm) (hto : (runOperation body s).phase = .awaitTlm) :
    commandPhase s.phase = true ∧ body = cmdTimeout := by
  cases h with
  | timeout command => exact ⟨command, rfl⟩
  | startEdge | expire | start | finish => simp at hto
  | endEdge | sample => exact absurd (by simpa using hto) hfrom
  | idle | wait | skip => exact absurd hto hfrom

/-- R268: from a command phase a row leads to a command phase or to AWAIT_TLM. -/
theorem transitions_from_command :
    ∀ row ∈ Spec.transitions, commandPhase row.2.1 = true → commandPhase row.2.2 = true ∨ row.2.2 = .awaitTlm := by
  decide

end Sys2Proof.Machine
end

section
/-! The obligations on the phase transitions. -/

namespace Sys2Proof.Proofs

open Sys2Proof.Machine Sys2Proof.Safety

/-- Settles O52: HALT changes no register, and every other selection is a row by its conditions. -/
theorem phaseTransitionsAreTheTable : Obligations.PhaseTransitionsAreTheTable := by
  unfold Obligations.PhaseTransitionsAreTheTable
  intro s t din rest hin hstep op
  obtain ⟨hhalt, hphase⟩ | ⟨hrun, body, heffect, rfl⟩ := step_sample_cases hin hstep
  · exact ⟨fun _ => ⟨decodeStep_stepSelect_halted (s := withSample din rest s) hhalt, hphase⟩,
      fun hrun => by simp [hhalt] at hrun⟩
  · exact ⟨fun hhalt => by simp [hhalt] at hrun, fun _ => heffect.transition hrun⟩

/-- Settles O50: the one move into AWAIT_TLM is the timeout, whose closed frame was valid. -/
theorem telemetryGateNeedsAValidFrame : Obligations.TelemetryGateNeedsAValidFrame := by
  unfold Obligations.TelemetryGateNeedsAValidFrame
  intro s t hstep hfrom hto
  obtain ⟨-, rfl⟩ | ⟨cfg, rest, -, rfl⟩ | ⟨din, rest, -, -, rfl⟩ | ⟨din, rest, body, -, -, -, heffect, rfl⟩ :=
    step_next_effect hstep
  · exact absurd hto hfrom
  · cases hto
  · exact absurd hto hfrom
  · obtain ⟨hcommand, rfl⟩ := heffect.enters_awaitTlm hfrom hto
    obtain ⟨hbidir, hv, hok, hlc⟩ := cmdTimeout_opens_wait hto
    exact ⟨hbidir, (commandPhase_iff _).mp hcommand, hv, hok, hlc, (heffect.sameConfiguration_runOperation _).cfg⟩

/-- Settles O51: a row leads out of the command phases through AWAIT_TLM alone, whose gate needs `bidir = 1`. -/
theorem unidirectionalBlockStaysInTheCommandPhase : Obligations.UnidirectionalBlockStaysInTheCommandPhase := by
  unfold Obligations.UnidirectionalBlockStaysInTheCommandPhase
  intro s t hcommand hstep
  obtain ⟨-, rfl⟩ | ⟨cfg, rest, -, rfl⟩ | ⟨din, rest, -, -, rfl⟩ | ⟨din, rest, body, -, hrun, -, heffect, rfl⟩ :=
    step_next_effect hstep
  · exact hcommand
  · exact fun _ => rfl
  · exact hcommand
  · intro hbidir
    rw [(heffect.sameConfiguration_runOperation _).cfg] at hbidir
    have hfrom : commandPhase (withSample din rest s).phase = true := hcommand hbidir
    obtain hstays | hwaits := transitions_from_command _ (heffect.transition hrun) hfrom
    · exact hstays
    · obtain ⟨-, rfl⟩ := heffect.enters_awaitTlm (fun hp => by rw [hp] at hfrom; cases hfrom) hwaits
      obtain ⟨hopen, -⟩ := cmdTimeout_opens_wait hwaits
      exact absurd (hopen.symm.trans hbidir) (by decide)

end Sys2Proof.Proofs
end

section
/-! SUPPORT. What the invariant of R35 gives along a run: the command edges alternate (R244, R246), and a telemetry frame ends after
exactly its samples (R255, R263). -/

namespace Sys2Proof.Safety

open Sys2Proof.Machine

/-! ### The command edges alternate -/

/-- R90, R91: the word of a selected start edge has its `se` bit set. -/
theorem startEdgeNow_of_selected {s : State} (h : decodeStep (stepSelect s) = .cmdStartEdge) : startEdgeNow s = true := by
  obtain ⟨hselected, -⟩ := Proofs.startEdgeFlushesAndBeginsABit
  obtain ⟨-, -, hbit, -⟩ := Proofs.selectWordFields s
  have hword := congrArg (fun w => w.getLsbD 4) ((hselected _).mp h)
  rw [← hbit]
  simpa using hword

/-- R90, R91: the word of a selected end edge has its `ee` bit set. -/
theorem endEdgeNow_of_selected {s : State} (h : decodeStep (stepSelect s) = .cmdEndEdge) : endEdgeNow s = true := by
  obtain ⟨hselected, -⟩ := Proofs.endEdgeCompletesTheDuty
  obtain ⟨-, -, -, hbit, -⟩ := Proofs.selectWordFields s
  have hword := congrArg (fun w => w.getLsbD 3) ((hselected _).mp h)
  rw [← hbit]
  simpa using hword

/-- R244: the line of a pending bit without a mid is at the duty level already, so no start edge can come. -/
theorem Inv.mid_of_startEdge {s : State} (h : Inv s) (hedge : startEdgeNow s = true) (hv : s.pend.psV = true) :
    s.pend.pmV = true := by
  obtain ⟨-, hlevel⟩ := h.lineLevel hv
  have hdin := din_of_startEdgeNow hedge
  rw [startEdgeNow_eq, Bool.and_eq_true, edgeNow_iff] at hedge
  obtain ⟨⟨-, hchange⟩, -⟩ := hedge
  by_contra hm
  rw [if_neg hm] at hlevel
  exact hchange (hdin.trans hlevel.symm)

/-- R246: the line of a fully timed bit is at the other level already, so no end edge can come. -/
theorem Inv.no_mid_of_endEdge {s : State} (h : Inv s) (hedge : endEdgeNow s = true) : s.pend.pmV = false := by
  by_contra hm
  have hm : s.pend.pmV = true := by simpa using hm
  obtain ⟨hv, -⟩ := h.midAfterStart hm
  obtain ⟨-, hlevel⟩ := h.lineLevel hv
  have hdin := din_of_endEdgeNow hedge
  rw [endEdgeNow_eq, Bool.and_eq_true, edgeNow_iff] at hedge
  obtain ⟨⟨-, hchange⟩, -⟩ := hedge
  rw [if_pos hm] at hlevel
  exact hchange (hdin.trans hlevel.symm)

/-! ### The samples of a telemetry frame -/

/-- The frame goes on: `t` is one sample later in the telemetry frame of `s`. -/
structure FrameGoesOn (s t : State) : Prop where
  phase : t.phase = .recvTlm
  halted : t.halted = false
  sidx : t.sidx = s.sidx + 1
  t0 : t.tlm.t0 = s.tlm.t0
  tim : t.tim = s.tim

/-- R267: the frame that began at sample `t0` has ended at sample `i`: its record is driven and a command window begins. -/
structure FrameEnded (t0 i : Nat) (t : State) : Prop where
  phase : t.phase = .awaitCmd
  v : t.out.tlm.v = true
  startIdx : t.out.tlm.startIdx = t0
  endIdx : t.out.tlm.endIdx = i
  lastEvt : t.lastEvt = i

/-- R255, R263: the cursor never stands beyond the frame's end. -/
theorem Inv.sidx_le_frameEnd {s : State} (h : Inv s) (hp : s.phase = .recvTlm) : s.sidx ≤ s.tlm.t0 + 42 * s.tim.h := by
  obtain ⟨-, hcnt, hnext, hpoint, hfinish⟩ := h.recvTelemetry hp
  obtain hlt | heq := Nat.lt_or_eq_of_le hcnt
  · have hlt' : 2 * s.tlm.cnt + 1 ≤ 42 := by
      have : s.tlm.cnt < 21 := hlt
      omega
    have hgrid := Nat.mul_le_mul_right s.tim.h hlt'
    have := hpoint hlt
    omega
  · have := hfinish heq
    omega

/-- R263, R265, R267: a sample in RECV_TLM goes on with the frame, or is its end and ends it. -/
theorem Inv.runOperation_recvTlm {s : State} {body : State → State} (h : Inv s) (hrun : s.halted = false)
    (hp : s.phase = .recvTlm) (heffect : SelectedEffect s body) :
    FrameGoesOn s (Machine.runOperation body s) ∨
    (s.sidx = s.tlm.t0 + 42 * s.tim.h ∧ FrameEnded s.tlm.t0 s.sidx (Machine.runOperation body s)) := by
  have hsame := heffect.sameConfiguration_runOperation s
  have hsidx : (Machine.runOperation body s).sidx = s.sidx + 1 := congrArg (· + 1) (heffect.sidx_eq (beginStep s))
  cases heffect with
  | startEdge command | endEdge command | timeout command | idle command => simp [hp, commandPhase] at command
  | expire await | start await | wait await => simp [hp] at await
  | sample =>
    have hphase : (Machine.runOperation tlmSample s).phase = s.phase := by simp
    have ht0 : (Machine.runOperation tlmSample s).tlm.t0 = s.tlm.t0 := by rw [runOperation_update, tlmSample_update]; rfl
    exact .inl ⟨hphase.trans hp, hsame.halted.trans hrun, hsidx, ht0, hsame.tim⟩
  | skip => exact .inl ⟨hp, hsame.halted.trans hrun, hsidx, rfl, hsame.tim⟩
  | finish _ due full =>
    obtain ⟨-, -, -, -, hfinish⟩ := h.recvTelemetry hp
    obtain ⟨-, -, -, hv, hstart, hend⟩ := tlmFinalize_kept s.sidx (beginStep s)
    exact .inr ⟨due.trans (hfinish full), rfl, hv, hstart, hend, rfl⟩

/-- R255: one sample of a telemetry frame, taken from the moves to come. -/
theorem Inv.step_recvTlm {s : State} {din : Bool} {rest : List HostMove} (h : Inv s) (hrun : s.halted = false)
    (hp : s.phase = .recvTlm) (hin : s.inputs = .sample din :: rest) (hlim : s.sidx < Config.sampleLimit) :
    ∃ t, Machine.step s = .next t ∧ t.inputs = rest ∧
      (FrameGoesOn s t ∨ (s.sidx = s.tlm.t0 + 42 * s.tim.h ∧ FrameEnded s.tlm.t0 s.sidx t)) := by
  obtain ⟨body, heffect, hexec⟩ := exec_selected (s := withSample din rest s) hrun
  have hpresented : Inv (withSample din rest s) := h.of_registers _ _ _
  refine ⟨_, (step_of_sample hin (.inr hlim)).trans hexec, (heffect.sameConfiguration_runOperation _).inputs, ?_⟩
  obtain ⟨hphase, hhalted, hsidx, ht0, htim⟩ | hended := hpresented.runOperation_recvTlm hrun hp heffect
  · exact .inl ⟨hphase, hhalted, hsidx, ht0, htim⟩
  · exact .inr hended

/-- A run of `n + 1` steps whose first gives a next state is the run of `n` steps from there. -/
theorem run_succ {s t : State} (hstep : Machine.step s = .next t) (n : Nat) :
    Sys2Proof.core.run (n + 1) s = Sys2Proof.core.run n t := by
  have hcore : Sys2Proof.core.step s = .next t := hstep
  simp only [Host.Core.run, hcore]

/-- R255, R263: the samples up to the frame's end, run from any sample of the frame, end it. -/
theorem Inv.run_recvTlm (levels : List Bool) {s : State} (h : Inv s) (hrun : s.halted = false) (hp : s.phase = .recvTlm)
    (hin : s.inputs = Spec.samples levels) (hlim : s.tlm.t0 + 42 * s.tim.h < Config.sampleLimit)
    (hlen : s.sidx + levels.length = s.tlm.t0 + 42 * s.tim.h + 1) :
    ∃ t, Sys2Proof.core.run levels.length s = .next t ∧ t.inputs = [] ∧
      FrameEnded s.tlm.t0 (s.tlm.t0 + 42 * s.tim.h) t := by
  have hle := h.sidx_le_frameEnd hp
  induction levels generalizing s with
  | nil =>
    rw [List.length_nil] at hlen
    omega
  | cons din levels ih =>
    rw [List.length_cons] at hlen ⊢
    obtain ⟨t, hstep, hrest, hon | ⟨hlast, hended⟩⟩ := h.step_recvTlm hrun hp hin (Nat.lt_of_le_of_lt hle hlim)
    · have hinv := h.step hstep
      have hle' := hinv.sidx_le_frameEnd hon.phase
      rw [run_succ hstep, ← hon.t0, ← hon.tim]
      refine ih hinv hon.halted hon.phase hrest ?_ ?_ hle'
      · rwa [hon.t0, hon.tim]
      · rw [hon.sidx, hon.t0, hon.tim]
        omega
    · obtain rfl : levels = [] := List.eq_nil_of_length_eq_zero (by omega)
      rw [← hlast]
      exact ⟨t, run_succ hstep 0, hrest, hended⟩

end Sys2Proof.Safety
end

section
/-! The obligations on the command edges and on the length of a telemetry frame. -/

namespace Sys2Proof.Proofs

open Sys2Proof.Machine Sys2Proof.Safety

/-- Settles O56: the invariant fixes the line's level by the pending bit, and an edge changes that level. -/
theorem edgesAlternate : Obligations.EdgesAlternate := by
  unfold Obligations.EdgesAlternate
  intro s din rest hinv hin p
  have hpresented : Inv p := hinv.of_registers _ _ _
  exact ⟨fun hop hv => hpresented.mid_of_startEdge (startEdgeNow_of_selected hop) hv,
    fun hop => hpresented.no_mid_of_endEdge (endEdgeNow_of_selected hop)⟩

/-- Settles O57: the samples of the frame one by one, by induction on their levels; the invariant fixes the frame's end. -/
theorem telemetryFrameEndsAfterItsSamples : Obligations.TelemetryFrameEndsAfterItsSamples := by
  unfold Obligations.TelemetryFrameEndsAfterItsSamples
  intro s levels hinv hp hrun hin hlim hlen
  obtain ⟨t, hruns, hinputs, hphase, hv, hstart, hend, hevt⟩ := hinv.run_recvTlm levels hrun hp hin hlim hlen
  exact ⟨t, hruns, hphase, hv, hstart, hend, hevt, hinputs⟩

end Sys2Proof.Proofs
end

section
/-! SUPPORT. What a step can depend on: a reset on what stands at the ports alone (R340, R341), and a sample between the sampling
points of a telemetry frame on the level at `din` only as the previous level of the next one (R265, R350). -/

namespace Sys2Proof.Machine

open Sys2Proof.Safety

/-- R340, R341: the step of a reset starts a session from its configuration, the level at `din` and the moves to come. -/
theorem step_of_reset_eq_afterReset {s : State} {cfg : CfgInputs} {rest : List HostMove}
    (hin : s.inputs = .reset cfg :: rest) :
    step s = .next (State.afterReset { rst := true, din := s.ports.din, cfg := cfg } rest) := by
  rw [step_of_reset hin, exec_decodeBaud, takeReset_eq]

/-- R265: off the cursor of a telemetry frame, a sample runs TLM_SKIP, whatever its level. -/
theorem step_between_sampling_points {s : State} {din : Bool} {rest : List HostMove}
    (hin : s.inputs = .sample din :: rest) (hp : s.phase = .recvTlm) (hrun : s.halted = false)
    (hoff : s.sidx ≠ s.tlm.next) (hlim : s.sidx < Config.sampleLimit) :
    step s = .next (runOperation id (withSample din rest s)) := by
  have hskip : decodeStep (stepSelect (withSample din rest s)) = .tlmSkip :=
    (decodeStep_stepSelect_recvTlm (s := withSample din rest s) hrun hp).trans (if_neg hoff)
  rw [step_of_sample hin (.inr hlim), hskip]
  rfl

/-- R243: an operation with no effect of its own writes the sample's level to `din` and `prev_din`, and to nothing else. -/
theorem runOperation_id_withSample (a b : Bool) (rest : List HostMove) (s : State) :
    runOperation id (withSample b rest s) =
      let t := runOperation id (withSample a rest s)
      { t with ports := { t.ports with din := b }, line := { t.line with prevDin := b } } := rfl

end Sys2Proof.Machine
end

section
/-! The obligations on the reset and on the hazards of the line. -/

namespace Sys2Proof.Proofs

open Sys2Proof.Machine

/-- Settles O24: nothing of the old session but the level at `din` enters the step of a reset. -/
theorem resetDiscardsTheSession : Obligations.ResetDiscardsTheSession := by
  unfold Obligations.ResetDiscardsTheSession
  intro s₁ s₂ cfg rest hin₁ hin₂ hdin
  have hstep₂ := step_of_reset_eq_afterReset hin₂
  rw [← hdin] at hstep₂
  exact ⟨_, step_of_reset_eq_afterReset hin₁, hstep₂, rfl, rfl, rfl, rfl, rfl, rfl, rfl⟩

/-- Settles O55: both levels run TLM_SKIP, whose epilogue alone writes the level. -/
theorem glitchBetweenSamplingPointsIsInvisible : Obligations.GlitchBetweenSamplingPointsIsInvisible := by
  unfold Obligations.GlitchBetweenSamplingPointsIsInvisible
  intro s rest hp hrun hoff hlim a b
  have hskip (din : Bool) := step_between_sampling_points (s := { s with inputs := .sample din :: rest }) rfl hp hrun hoff hlim
  exact ⟨_, hskip a, (hskip b).trans (congrArg Host.Outcome.next (runOperation_id_withSample a b rest _))⟩

end Sys2Proof.Proofs
end
